-- ==== Sys2Proof/Word.lean ====
section
/-! DEFINITION. The words of the block: the 8-bit byte every part moves (R10) and the 11-bit operation word
of both formats (R60). -/

namespace Sys2Proof

/-- One byte, unsigned, 0x00 to 0xFF (R10, R63). -/
abbrev Byte := BitVec 8

/-- An 11-bit operation word: a decode key `K` (R64) or a port word `W` (R73). -/
abbrev OpWord := BitVec 11

end Sys2Proof
end

