-- ==== Sys2Proof/Syntax.lean ====
section
/-! DEFINITION. The names the spec gives: parser states (R22), formats (R60), the operands that travel beside a port
word (R73), and one constructor per row of spec/opcode_table.json. -/

namespace Sys2Proof

/-- The four values of the 2-bit register `STATE` (R22, R61). -/
inductive ParserState
  /-- Outside a frame, looking for the start byte. -/
  | awaitingStart
  /-- Inside a frame, taking payload bytes. -/
  | awaitingData
  /-- After the tenth payload byte; the next byte is the terminal byte. -/
  | awaitingEnd
  /-- Code `0b11`, reserved (R61, R72, X1). -/
  | reserved
deriving DecidableEq, Repr

/-- A transport identifier: a name, compared by equality only (R12, R77; log 2). -/
abbrev ChannelId := Nat

/-- An enable-pin identifier: a name, compared by equality only (R12, R77; log 2). -/
abbrev PinId := Nat

/-- The two formats of R60. -/
inductive Format
  /-- The decode key, formed inside the block (R64). -/
  | key
  /-- A host transaction on the ports (R73). -/
  | port
deriving DecidableEq, Repr

/-- What travels beside a port word (R73): `RESET_CFG`'s transport identifier, `none` for the marker `ABSENT`, and its
pin identifier. The other operations do not look at it. -/
structure Side where
  ch  : Option ChannelId
  pin : PinId
deriving DecidableEq, Repr

/-- Nothing beside the word: `ABSENT`, and the pin identifier 0 (log 8). -/
def Side.empty : Side := { ch := none, pin := 0 }

/-- The eleven operations of spec/opcode_table.json. A key action keeps every bit of its key that the action does not
fix: `last` is `K[8]` (also where it is a don't-care bit, log 12) and `b` is `K[7:0]`. -/
inductive Instr
  /-- `START_DETECT`, R92. -/
  | startDetect (last : Bool)
  /-- `NOISE_DISCARD`, R93. -/
  | noiseDiscard (last : Bool) (b : Byte)
  /-- `DATA_STORE`, R94. -/
  | dataStore (b : Byte)
  /-- `DATA_STORE_LAST`, R95. -/
  | dataStoreLast (b : Byte)
  /-- `END_OK`, R96. -/
  | endOk (last : Bool)
  /-- `END_FAIL`, R97. -/
  | endFail (last : Bool) (b : Byte)
  /-- `ILLEGAL_STATE`, R98. -/
  | illegalState (last : Bool) (b : Byte)
  /-- `PUSH`, R80. -/
  | push (b : Byte)
  /-- `AVAIL`, R83. -/
  | avail
  /-- `OBS_READ`, R115. -/
  | obsRead (n : BitVec 4)
  /-- `RESET_CFG`, R110; `ch = none` is `ABSENT`. -/
  | resetCfg (ch : Option ChannelId) (pin : PinId)
deriving DecidableEq, Repr

/-- The names of the rows of spec/opcode_table.json. -/
inductive Op
  | startDetect | noiseDiscard | dataStore | dataStoreLast | endOk | endFail | illegalState
  | push | avail | obsRead | resetCfg
deriving DecidableEq, Repr

/-- The row of the opcode table an operation is one of. -/
def Instr.op : Instr → Op
  | .startDetect _ => .startDetect
  | .noiseDiscard _ _ => .noiseDiscard
  | .dataStore _ => .dataStore
  | .dataStoreLast _ => .dataStoreLast
  | .endOk _ => .endOk
  | .endFail _ _ => .endFail
  | .illegalState _ _ => .illegalState
  | .push _ => .push
  | .avail => .avail
  | .obsRead _ => .obsRead
  | .resetCfg _ _ => .resetCfg

/-- The format of an operation (R60): the seven parser actions are keys, the four host operations are port words. -/
def Instr.format : Instr → Format
  | .startDetect _ | .noiseDiscard _ _ | .dataStore _ | .dataStoreLast _
  | .endOk _ | .endFail _ _ | .illegalState _ _ => .key
  | .push _ | .avail | .obsRead _ | .resetCfg _ _ => .port

end Sys2Proof
end

