-- ==== Sys2Proof/Config.lean ====
section
/-! DEFINITION. The block's constants (R7 to R9, R13, R14) and its OPEN parameters (R11, R12), which are
uninterpreted here: nothing in Lean can tell their values (log 1). -/

namespace Sys2Proof.Config

/-- `START_BYTE` (R7). -/
def startByte : Byte := 0x0A#8

/-- `END_BYTE` (R8). -/
def endByte : Byte := 0x0D#8

/-- `PAYLOAD_LEN` (R9). -/
def payloadLen : Nat := 10

/-- `BAUD` in bit/s (R13): informational, no rule reads it. -/
def baud : Nat := 2400

/-- `IDLE_DELAY` in milliseconds (R14): informational, no rule reads it. -/
def idleDelayMs : Nat := 500

/-- The parameters of one block (R11, R12). `reserved` is the table behind `RESERVED : CHANNELS -> set of pins`. -/
structure Params where
  fifoDepth : Nat
  channels  : List ChannelId
  pins      : List PinId
  reserved  : List (ChannelId × List PinId)
deriving DecidableEq, Repr

/-- What R11 and R12 require of the parameters: a depth of at least 1, and non-empty `CHANNELS` and `PINS`. -/
abbrev Params.Ok (p : Params) : Prop :=
  1 ≤ p.fifoDepth ∧ p.channels ≠ [] ∧ p.pins ≠ []

/-- `NPINS`, the length of `PINS` (R12). -/
def Params.npins (p : Params) : Nat := p.pins.length

/-- One less than this block's `FIFO_DEPTH` (R11 gives no value, only that it is at least 1; log 1). -/
opaque fifoDepthPred : Nat

/-- Some element of this block's `CHANNELS` (R12: the set is not empty; log 1). -/
opaque someChannel : ChannelId

/-- The other elements of `CHANNELS` (R12; log 1). -/
opaque otherChannels : List ChannelId

/-- The first pin of this block's `PINS` (R12: the list is not empty; log 1). -/
opaque firstPin : PinId

/-- The other pins of `PINS`, in order (R12; log 1). -/
opaque otherPins : List PinId

/-- This block's `RESERVED` (R12; log 1). -/
opaque reservedTable : List (ChannelId × List PinId)

/-- The parameters of the block that `State.reset` is a state of: any that R11 and R12 allow. -/
def params : Params where
  fifoDepth := fifoDepthPred + 1
  channels  := someChannel :: otherChannels
  pins      := firstPin :: otherPins
  reserved  := reservedTable

end Sys2Proof.Config
end

