-- ==== Sys2Proof/WellFormed.lean ====
section
/-! DEFINITION. Well-formed instructions: those some word of the encoding stands for. The two rows of priority 2 do
not take the byte that the row of priority 1 takes (R65). -/

namespace Sys2Proof

/-- `NOISE_DISCARD` is never the start byte and `END_FAIL` never the end byte (R65: "Equivalently, without
priorities"); every other operand may have any value. -/
def Instr.wf : Instr → Bool
  | .noiseDiscard _ b => b != Config.startByte
  | .endFail _ b => b != Config.endByte
  | .startDetect _ | .dataStore _ | .dataStoreLast _ | .endOk _ | .illegalState _ _
  | .push _ | .avail | .obsRead _ | .resetCfg _ _ => true

end Sys2Proof
end

