-- ==== Sys2Proof/Decode.lean ====
section
/-! DEFINITION. Decoding and encoding (30_encoding.md): the state codes, the decode key and its action map, the port
words, the table of both as data, and the host's table-word reader. -/

namespace Sys2Proof

/-! ## The codes of `STATE` (R61) -/

/-- The 2-bit code of a parser state (R61). -/
def ParserState.code : ParserState → BitVec 2
  | .awaitingStart => 0b00#2
  | .awaitingData => 0b01#2
  | .awaitingEnd => 0b10#2
  | .reserved => 0b11#2

/-- The parser state of a 2-bit code (R61). -/
def ParserState.ofCode (c : BitVec 2) : ParserState :=
  if c = 0b00#2 then .awaitingStart
  else if c = 0b01#2 then .awaitingData
  else if c = 0b10#2 then .awaitingEnd
  else .reserved

/-! ## The decode key (R64, R65) -/

/-- A key from its three fields: `K[10:9]` the state code, `K[8]` `LAST`, `K[7:0]` the byte (R64). -/
def keyWord (st : ParserState) (last : Bool) (b : Byte) : OpWord :=
  st.code ++ BitVec.ofBool last ++ b

/-- `K[10:9]`, as a state. -/
def keyState (k : OpWord) : ParserState := .ofCode (k.extractLsb' 9 2)

/-- `K[8]`. -/
def keyLast (k : OpWord) : Bool := k.getLsbD 8

/-- `K[7:0]`. -/
def keyByte (k : OpWord) : Byte := k.extractLsb' 0 8

/-- The action map: each of the 2048 keys selects exactly one action (R65). -/
def decodeKey (k : OpWord) : Instr :=
  match keyState k with
  | .awaitingStart =>
      if keyByte k = Config.startByte then .startDetect (keyLast k) else .noiseDiscard (keyLast k) (keyByte k)
  | .awaitingData => if keyLast k then .dataStoreLast (keyByte k) else .dataStore (keyByte k)
  | .awaitingEnd => if keyByte k = Config.endByte then .endOk (keyLast k) else .endFail (keyLast k) (keyByte k)
  | .reserved => .illegalState (keyLast k) (keyByte k)

/-! ## Port words (R73) -/

/-- The operation code `W[10:8]` (R73). -/
def portOp (w : OpWord) : BitVec 3 := w.extractLsb' 8 3

/-- The operand bits `W[7:0]` (R73). -/
def portArg (w : OpWord) : Byte := w.extractLsb' 0 8

/-- A port word and what travels beside it, read as an operation; `none` is the refusal `ReservedOp` (R72, R73). -/
def decodePort (w : OpWord) (side : Side) : Option Instr :=
  if portOp w = 0b000#3 then some (.push (portArg w))
  else if portOp w = 0b001#3 then
    if portArg w = 0#8 then some .avail else none
  else if portOp w = 0b010#3 then
    if w.extractLsb' 4 4 = 0#4 then some (.obsRead (w.extractLsb' 0 4)) else none
  else if portOp w = 0b011#3 then
    if portArg w = 0#8 then some (.resetCfg side.ch side.pin) else none
  else none

/-! ## Both formats -/

/-- A word of a given format, read as an operation. -/
def decode (f : Format) (w : OpWord) (side : Side) : Option Instr :=
  match f with
  | .key => some (decodeKey w)
  | .port => decodePort w side

/-- An operation's word (R64, R65 for a key; R73 for a port word). -/
def encodeWord : Instr → OpWord
  | .startDetect last => keyWord .awaitingStart last Config.startByte
  | .noiseDiscard last b => keyWord .awaitingStart last b
  | .dataStore b => keyWord .awaitingData false b
  | .dataStoreLast b => keyWord .awaitingData true b
  | .endOk last => keyWord .awaitingEnd last Config.endByte
  | .endFail last b => keyWord .awaitingEnd last b
  | .illegalState last b => keyWord .reserved last b
  | .push b => 0b000#3 ++ b
  | .avail => 0b001#3 ++ 0#8
  | .obsRead n => 0b010#3 ++ 0#4 ++ n
  | .resetCfg _ _ => 0b011#3 ++ 0#8

/-- What travels beside an operation's word (R73). -/
def encodeSide : Instr → Side
  | .resetCfg ch pin => { ch := ch, pin := pin }
  | .startDetect _ | .noiseDiscard _ _ | .dataStore _ | .dataStoreLast _ | .endOk _ | .endFail _ _
  | .illegalState _ _ | .push _ | .avail | .obsRead _ => Side.empty

/-- The words of an instruction: its format, its word, and what travels beside it. -/
def encode (i : Instr) : Format × OpWord × Side := (i.format, encodeWord i, encodeSide i)

/-! ## The table of R65 and R73 as data -/

/-- One row of the opcode table: a word matches when its bits under `mask` are `pat`; of the rows that match, the one
with the lower `priority` number wins (R65). -/
structure TableRow where
  op       : Op
  pat      : OpWord
  mask     : OpWord
  priority : Nat
deriving DecidableEq, Repr

/-- A row matches a word. -/
def TableRow.hits (r : TableRow) (w : OpWord) : Bool := w &&& r.mask == r.pat

/-- The seven rows of format `key`, in the order of R65. -/
def keyTable : List TableRow :=
  [ { op := .startDetect, pat := 0x00A, mask := 0x6FF, priority := 1 },
    { op := .noiseDiscard, pat := 0x000, mask := 0x600, priority := 2 },
    { op := .dataStore, pat := 0x200, mask := 0x700, priority := 1 },
    { op := .dataStoreLast, pat := 0x300, mask := 0x700, priority := 1 },
    { op := .endOk, pat := 0x40D, mask := 0x6FF, priority := 1 },
    { op := .endFail, pat := 0x400, mask := 0x600, priority := 2 },
    { op := .illegalState, pat := 0x600, mask := 0x600, priority := 1 } ]

/-- The four rows of format `port` (R73); no two match one word, so they have one priority. -/
def portTable : List TableRow :=
  [ { op := .push, pat := 0x000, mask := 0x700, priority := 1 },
    { op := .avail, pat := 0x100, mask := 0x7FF, priority := 1 },
    { op := .obsRead, pat := 0x200, mask := 0x7F0, priority := 1 },
    { op := .resetCfg, pat := 0x300, mask := 0x7FF, priority := 1 } ]

/-- Row `r` wins word `w` in a table: it matches, and every other row that matches has a larger priority number. -/
def rowWins (table : List TableRow) (w : OpWord) (op : Op) : Bool :=
  table.any fun r =>
    decide (r.op = op) && r.hits w && table.all fun q => decide (q = r) || !q.hits w || decide (r.priority < q.priority)

/-- The table of a format. -/
def tableOf : Format → List TableRow
  | .key => keyTable
  | .port => portTable

/-! ## The host's reader of bare table words (log 8) -/

/-- The format a BARE word of the opcode table is read in, where nothing says which. The two formats share the numbers
0 to 0x7FF, so the row with the most fixed bits wins: `0x00A` is `START_DETECT` (ten fixed bits; `PUSH` fixes three),
any other word that a port row matches is a port word, and every other word is a key. DESIGN CHOICE, log 8: inside the
machine a word's format is never guessed (`State.fetch`). -/
def tableFormat (w : OpWord) : Format :=
  if w = 0x00A#11 then .key
  else if (decodePort w Side.empty).isSome then .port
  else .key

/-- The word of `nbits` bits whose number is `w`, where it fits the 11 bits of an operation word. -/
def tableWord (nbits w : Nat) : Option OpWord :=
  if w % 2 ^ nbits < 2 ^ 11 then some (BitVec.ofNat 11 (w % 2 ^ nbits)) else none

/-- The instruction the decoder reads from a bare word of the opcode table, with nothing beside it. -/
def decodeTableWord (nbits w : Nat) : Option Instr :=
  (tableWord nbits w).bind fun v => decode (tableFormat v) v Side.empty

end Sys2Proof
end

