-- ==== Sys2Proof/Machine/State.lean ====
section
/-! DEFINITION. The whole state of one block instance (10_state.md), with the outputs of the last step, the spec's
fault and refusal records, the block's parameters and the outside world's pending turns; and the power-on state. -/

namespace Sys2Proof.Machine

/-- The faults the spec names (R134). A fault here is RECORDED in the state, as R98 and R134 say ("recorded and never
cleared except by `RESET_CFG`"); no step ends in one (log 6). -/
inductive Fault
  /-- Recorded by `ILLEGAL_STATE` (R98) and by a `DATA_STORE` with `CURSOR >= 10` (R94). Safe: no state that the
  invariant of R25 allows records it. -/
  | illegalState
deriving DecidableEq, Repr

/-- The refusals the spec names (R134), each a mark in the state ("a mark kept for the whole run"; log 7), and the
host's own. -/
inductive Refusal
  /-- Raised by an arm of `exec` whose instruction has no meaning yet; no arm is one. Safe: the step stops. -/
  | notModelled (mnemonic : String)
  /-- Marked by a port word whose operation code is reserved, or whose must-be-zero operand bits are not 0 (R73).
  Safe: the state is otherwise unchanged, as R73 says. -/
  | reservedOp
  /-- Marked by `OBS_READ(15)` (R115, R72). Safe: the state is otherwise unchanged and no value is returned. -/
  | reservedPort
deriving DecidableEq, Repr

/-- The frame buffer as sparse memory (R24, R40): (index, byte) pairs, indices rising; an index not listed is `UNDEF`. -/
abbrev Memory := List Host.Cell

/-- The content of one cell: a byte, or `none` for the marker `UNDEF` (R24). -/
abbrev CellVal := Option Byte

/-- The enable-line output `EN_N` (R32). -/
inductive Line
  /-- `Z`, not driven. -/
  | z
  /-- Logic 0. -/
  | low
  /-- Logic 1. -/
  | high
deriving DecidableEq, Repr

/-- `EVT`, the event output of a step (R33, R69). The payload is a copy of the ten cells of `BUF`, in transmission
order (log 10). -/
inductive Evt
  | none
  | success (payload : List CellVal)
  | failure
deriving DecidableEq, Repr

/-- The value of an observation port (R68). A value with a bit width that depends on a parameter carries it. -/
inductive PortValue
  /-- Port 0, 16 bits. -/
  | status (v : BitVec 16)
  /-- Port 1, `COUNT`, `CW` bits (R67). -/
  | count (width value : Nat)
  /-- Port 2. -/
  | channel (c : ChannelId)
  /-- Port 3. -/
  | pin (p : PinId)
  /-- Port 4, `AVAILPINS`, `NPINS` bits (R31). -/
  | availPins (width value : Nat)
  /-- Ports 5 to 14, a byte. -/
  | bufByte (b : Byte)
  /-- The element read is `UNDEF`: no value (R115). -/
  | noValue
deriving DecidableEq, Repr

/-- What a port operation hands back to its caller. -/
inductive Ret
  /-- Nothing: a parser step, `PUSH`, a valid `RESET_CFG`. -/
  | none
  /-- `AVAIL`: the value of `COUNT`, `CW` bits wide (R83, R67). -/
  | count (width value : Nat)
  /-- `OBS_READ`: the port's value (R115). -/
  | port (v : PortValue)
  /-- `raise ConfigError(code)` (R17, R110). -/
  | configError (code : BitVec 3)
  /-- The operation was refused (R134). -/
  | refused (r : Refusal)
deriving DecidableEq, Repr

/-- One pending turn of the outside world's schedule (R75, R160; log 4). -/
inductive Turn
  /-- The host or the transport performs one port transaction: a word and what travels beside it (R73). -/
  | port (w : OpWord) (side : Side)
  /-- The parser has one turn: a `CONSUME` step if it is enabled (the parser step of `FEED`, R75). -/
  | parser
  /-- The parser steps until `COUNT == 0` (`DRAIN`, R75). -/
  | drain
deriving DecidableEq, Repr

/-- The state of one instance. The fields follow the table of R36; then the records of R134, the outputs of the last
step (R33; log 5), the run's observation (R161) and the pending turns (log 4). `COUNT` is the length of `fifo` (R26). -/
structure State where
  /-- `FIFO_DEPTH`, `CHANNELS`, `PINS`, `RESERVED` (R11, R12): fixed, no step changes them (log 1). -/
  params : Config.Params
  /-- `RUN` (R28). -/
  run : Bool
  /-- `CFGERR` (R29, R130). -/
  cfgErr : BitVec 3
  /-- `CHANNEL` (R30); `none` is `UNDEF`. -/
  channel : Option ChannelId
  /-- `ENPIN` (R30); `none` is `UNDEF`. -/
  enPin : Option PinId
  /-- `AVAILPINS` (R31): bit `k` stands for `PINS[k]`. -/
  availPins : Nat
  /-- `EN_N` (R32). -/
  enN : Line
  /-- `STATE` (R22). -/
  st : ParserState
  /-- `CURSOR` (R23). -/
  cursor : BitVec 4
  /-- `BUF` (R24). -/
  buf : Memory
  /-- `FIFO`, oldest byte first (R26). -/
  fifo : List Byte
  /-- `OVR` (R27). -/
  ovr : Bool
  /-- The recorded fault (R98, R134). -/
  fault : Option Fault
  /-- The refusal mark `ReservedOp` (R134). -/
  refusedOp : Bool
  /-- The refusal mark `ReservedPort` (R134). -/
  refusedPort : Bool
  /-- `EVT` of the last step (R33, R69). -/
  evt : Evt
  /-- What the last step returned to its caller. -/
  ret : Ret
  /-- Every event emitted so far, oldest first: the observation of a run (R161). -/
  events : List Evt
  /-- The turns still to come (R75, R160). -/
  stim : List Turn
deriving DecidableEq, Repr

/-- `COUNT`, the number of bytes in the FIFO (R26). -/
def State.count (s : State) : Nat := s.fifo.length

/-- The power-on state: the last column of R36 (R151). The parameters are the uninterpreted ones of Config (log 1);
the records, outputs and pending turns are empty (log 20). -/
def State.reset : State where
  params := Config.params
  run := false
  cfgErr := 0
  channel := none
  enPin := none
  availPins := 0
  enN := .z
  st := .awaitingStart
  cursor := 0
  buf := []
  fifo := []
  ovr := false
  fault := none
  refusedOp := false
  refusedPort := false
  evt := .none
  ret := .none
  events := []
  stim := []

end Sys2Proof.Machine
end

