-- ==== Sys2Proof/Machine/Ops.lean ====
section
/-! DEFINITION. The named operations over the state: the frame buffer (R16, R24), the FIFO (R80 to R82), the outputs
(R17), the fault and refusal records (R98, R134), and the two outcomes of a construction (R110). -/

namespace Sys2Proof.Machine

/-! ## The frame buffer as memory (R16, R40) -/

/-- `MemRead(BUF, i, 1)` (R16): the byte of cell `i`, or `none` for `UNDEF`. -/
def Memory.read : Memory → Nat → CellVal
  | [], _ => none
  | (a, b) :: m, i => if a = i then some b else Memory.read m i

/-- `MemWrite(BUF, i, 1, v)` (R16), keeping the indices rising. -/
def Memory.write : Memory → Nat → Byte → Memory
  | [], i, v => [(i, v)]
  | (a, b) :: m, i, v =>
      if i < a then (i, v) :: (a, b) :: m
      else if i = a then (i, v) :: m
      else (a, b) :: Memory.write m i v

/-- Indices from `lo` on, rising, and inside the ten cells. -/
def Memory.wfFrom : Nat → Memory → Bool
  | _, [] => true
  | lo, (a, _) :: m => lo ≤ a && a < Config.payloadLen && Memory.wfFrom (a + 1) m

/-- The canonical form: each of the ten indices at most once, in rising order. An unlisted index reads `UNDEF`, which
no entry equals. -/
def Memory.wf (m : Memory) : Bool := Memory.wfFrom 0 m

/-- The buffer with every cell 0x00, what `START_DETECT` leaves (R92). -/
def Memory.zeroed : Memory := (List.range Config.payloadLen).map fun i => (i, 0#8)

/-- The ten cells in index order (R41): the payload a success event copies (R96). -/
def Memory.cells (m : Memory) : List CellVal := (List.range Config.payloadLen).map (Memory.read m)

/-! ## Outputs of a step (R17, R33) -/

/-- The state at the start of a step: nothing on the outputs yet (R69: a step that emits nothing has `None`). -/
def State.quiet (s : State) : State := { s with evt := .none, ret := .none }

/-- `emit e` (R17): the event goes out in this step and into the run's observation (R161). -/
def State.emit (s : State) (e : Evt) : State := { s with evt := e, events := s.events ++ [e] }

/-- The step hands `r` back to its caller. -/
def State.returning (s : State) (r : Ret) : State := { s with ret := r }

/-! ## The records of R134 -/

/-- `fault f` (R17, R98): recorded; no state element is written and no event is emitted. -/
def State.recordFault (s : State) (f : Fault) : State := { s with fault := some f }

/-- Refuse `ReservedOp` (R73): the mark is set and the caller is told. -/
def State.refuseOp (s : State) : State := { s with refusedOp := true, ret := .refused .reservedOp }

/-- Refuse `ReservedPort` (R115): the mark is set and the caller is told. -/
def State.refusePort (s : State) : State := { s with refusedPort := true, ret := .refused .reservedPort }

/-! ## The byte-input FIFO (R80 to R82) -/

/-- The state change of `fifo_pop()` (R82): the head byte is removed. -/
def State.popFifo (s : State) : State := { s with fifo := s.fifo.tail }

/-- `fifo_push(b)` (R80, R81, R84): appended when there is room, dropped with `OVR` set when full, and nothing while no
reader is constructed. -/
def State.pushFifo (s : State) (b : Byte) : State :=
  if s.run = false then s
  else if s.count < s.params.fifoDepth then { s with fifo := s.fifo ++ [b] }
  else { s with ovr := true }

/-! ## The parser's writes (R92 to R97) -/

/-- The writes of `START_DETECT` (R92). -/
def State.startFrame (s : State) : State :=
  { s with st := .awaitingData, cursor := 0, buf := Memory.zeroed }

/-- `BUF[CURSOR] <- b; CURSOR <- CURSOR + 1` (R94). -/
def State.storeByte (s : State) (b : Byte) : State :=
  { s with buf := s.buf.write s.cursor.toNat b, cursor := s.cursor + 1 }

/-- The writes of `DATA_STORE_LAST` (R95). -/
def State.storeLast (s : State) (b : Byte) : State :=
  { s with buf := s.buf.write 9 b, cursor := 10, st := .awaitingEnd }

/-- `STATE <- AwaitingStart` (R96, R97): `CURSOR` and `BUF` stay. -/
def State.endFrame (s : State) : State := { s with st := .awaitingStart }

/-! ## Construction (R110) -/

/-- The part of `RESET_CFG` before its branch: all parser and FIFO state starts afresh, and a recorded fault is
cleared (R98). -/
def State.fresh (s : State) : State :=
  { s with st := .awaitingStart, cursor := 0, buf := [], fifo := [], ovr := false, fault := none }

/-- The branch of `RESET_CFG` for a valid configuration; `mask` is `availmask(ch)` (R110, R113). -/
def State.construct (s : State) (ch : Option ChannelId) (pin : PinId) (mask : Nat) : State :=
  { s with channel := ch, enPin := some pin, availPins := mask, enN := .high, cfgErr := 0, run := true }

/-- `raise ConfigError(code)`, the one exception of the block: the branch of `RESET_CFG` for an invalid configuration
(R110, R138 (b)). No state is saved and nothing returns from it (R138, R139). -/
def State.raiseConfigError (s : State) (code : BitVec 3) : State :=
  { s with channel := none, enPin := none, availPins := 0, enN := .z, cfgErr := code, run := false,
           ret := .configError code }

end Sys2Proof.Machine
end

