-- ==== Sys2Proof/Machine/Flags.lean ====
section
/-! DEFINITION. Flags and computed fields: the key bit `LAST` (R64), the status word (R66), the width of `COUNT`
(R67), and the codes of the event output (R69, R70). -/

namespace Sys2Proof.Machine

/-- `LAST := (CURSOR == PAYLOAD_LEN - 1)` (R64). -/
def lastFlag (cursor : BitVec 4) : Bool := cursor == 9#4

/-- `FIFO_NE`: 1 when `COUNT > 0`, the data-arrived condition (R66, R135). -/
def State.fifoNe (s : State) : Bool := decide (0 < s.count)

/-- `EN_DRIVEN`: 1 when the enable line is driven (R66; log 13). -/
def Line.driven : Line → Bool
  | .z => false
  | .low | .high => true

/-- `EN_LEVEL`: the driven level, 0 when not driven (R66). -/
def Line.level : Line → Bool
  | .high => true
  | .low | .z => false

/-- The `STATUS` word (R66), bit 15 on the left. -/
def State.status (s : State) : BitVec 16 :=
  0b00#2 ++ BitVec.ofBool s.fifoNe ++ BitVec.ofBool s.enN.level ++ BitVec.ofBool s.enN.driven ++ s.cfgErr
    ++ BitVec.ofBool s.run ++ BitVec.ofBool s.ovr ++ s.cursor ++ s.st.code

/-- `CW`, the least `w` with `2^w > FIFO_DEPTH` (R67). -/
def countWidth (depth : Nat) : Nat := if depth = 0 then 0 else depth.log2 + 1

/-- `EVT_KIND` (R69). -/
def Evt.kind : Evt → BitVec 2
  | .none => 0b00#2
  | .success _ => 0b01#2
  | .failure => 0b10#2

/-- Ten cells as one word, the first in the least significant byte (R70); no value if a cell is `UNDEF`. -/
def packCells : List CellVal → Option Nat
  | [] => some 0
  | c :: cs => do
      let b ← c
      let rest ← packCells cs
      pure (b.toNat + 256 * rest)

/-- `EVT_PAYLOAD`: 80 bits, which carry a value only with `Success` (R69, R70, X8). -/
def Evt.payloadWord : Evt → Option (BitVec 80)
  | .success p => (packCells p).map (BitVec.ofNat 80)
  | .none | .failure => Option.none

end Sys2Proof.Machine
end

