-- ==== Sys2Proof/Machine/Operands.lean ====
section
/-! DEFINITION. Operand forms: the decode key the parser forms (R64, R90), the configuration operands and their
validation (R77, R111, R112), and the observation ports (R68). -/

namespace Sys2Proof.Machine

/-! ## The parser's key -/

/-- The parser step is enabled exactly when `RUN == 1` and `COUNT > 0` (R85). -/
def State.enabled (s : State) : Bool := s.run && s.fifoNe

/-- The key formed from the state before the step and the consumed byte (R64). -/
def State.keyFor (s : State) (b : Byte) : OpWord := keyWord s.st (lastFlag s.cursor) b

/-- The action the parser's next step is: the one its key selects, where the step is enabled (R90). -/
def State.selected (s : State) : Option Instr :=
  if s.run then s.fifo.head?.map fun b => decodeKey (s.keyFor b) else none

/-! ## Configuration operands -/

/-- `RESERVED(ch)`: the pins of every row of the table for `ch` (R12; log 17). -/
def reservedPins (p : Config.Params) (ch : ChannelId) : List PinId :=
  (p.reserved.filter fun row => row.1 == ch).flatMap fun row => row.2

/-- `validate(ch, pin)`: the first code whose condition holds (R111, R130). -/
def validate (p : Config.Params) (ch : Option ChannelId) (pin : PinId) : BitVec 3 :=
  match ch with
  | none => 1
  | some c =>
      if c ∉ p.channels then 2
      else if pin ∈ reservedPins p c then 3
      else if pin ∉ p.pins then 4
      else 0

/-- The mask of a pin list: bit `k` is 1 exactly when pin `k` of the list is not in `res`. -/
def freeMask (res : List PinId) : List PinId → Nat
  | [] => 0
  | q :: qs => (if q ∈ res then 0 else 1) + 2 * freeMask res qs

/-- `availmask(ch)` (R112). `RESET_CFG` asks it only for a channel; `ABSENT` reserves nothing. -/
def availMask (p : Config.Params) (ch : Option ChannelId) : Nat :=
  freeMask ((ch.map (reservedPins p)).getD []) p.pins

/-! ## Observation ports -/

/-- `port_value(S, n)` for ports 0 to 14 (R68); port 15 has none (R72). -/
def State.portValue (s : State) (n : BitVec 4) : PortValue :=
  if n = 0#4 then .status s.status
  else if n = 1#4 then .count (countWidth s.params.fifoDepth) s.count
  else if n = 2#4 then (s.channel.map .channel).getD .noValue
  else if n = 3#4 then (s.enPin.map .pin).getD .noValue
  else if n = 4#4 then .availPins s.params.npins s.availPins
  else if n = 15#4 then .noValue
  else ((s.buf.read (n.toNat - 5)).map .bufByte).getD .noValue

end Sys2Proof.Machine
end

