-- ==== Sys2Proof/Machine/Parser.lean ====
section
/-! DEFINITION. The seven actions of `CONSUME` (41_frame_parser.md). Each meaning is the whole parser step of its
action: the pop, the writes and the event. -/

namespace Sys2Proof.Machine

/-- The parser step of action `i` (R90): where the step is enabled and its key selects `i`, that is, where the rule's
"Operands" line holds, `act`; elsewhere the block has no such step and nothing happens (R85; log 9). -/
def State.consume (s : State) (i : Instr) (act : State → State) : State :=
  if s.selected = some i then act s.quiet else s.quiet

/-- `START_DETECT` (R92). -/
def execStartDetect (last : Bool) (s : State) : Host.Outcome State Fault Refusal :=
  .next (s.consume (.startDetect last) fun t => t.popFifo.startFrame)

/-- `NOISE_DISCARD` (R93): "no state element changes except through the pop". -/
def execNoiseDiscard (last : Bool) (b : Byte) (s : State) : Host.Outcome State Fault Refusal :=
  .next (s.consume (.noiseDiscard last b) fun t => t.popFifo)

/-- `DATA_STORE` (R94); with `CURSOR >= 10` it faults as R98 does, and writes nothing. -/
def execDataStore (b : Byte) (s : State) : Host.Outcome State Fault Refusal :=
  .next (s.consume (.dataStore b) fun t =>
    if t.cursor.toNat < Config.payloadLen then t.popFifo.storeByte b else t.recordFault .illegalState)

/-- `DATA_STORE_LAST` (R95). -/
def execDataStoreLast (b : Byte) (s : State) : Host.Outcome State Fault Refusal :=
  .next (s.consume (.dataStoreLast b) fun t => t.popFifo.storeLast b)

/-- `END_OK` (R96): the event carries a copy of the ten cells. -/
def execEndOk (last : Bool) (s : State) : Host.Outcome State Fault Refusal :=
  .next (s.consume (.endOk last) fun t => (t.popFifo.emit (.success t.buf.cells)).endFrame)

/-- `END_FAIL` (R97): the event carries no payload. -/
def execEndFail (last : Bool) (b : Byte) (s : State) : Host.Outcome State Fault Refusal :=
  .next (s.consume (.endFail last b) fun t => (t.popFifo.emit .failure).endFrame)

/-- `ILLEGAL_STATE` (R98): the fault is recorded; no state element is written, so the byte stays in the FIFO (log 6). -/
def execIllegalState (last : Bool) (b : Byte) (s : State) : Host.Outcome State Fault Refusal :=
  .next (s.consume (.illegalState last b) fun t => t.recordFault .illegalState)

end Sys2Proof.Machine
end

