-- ==== Sys2Proof/Machine/Port.lean ====
section
/-! DEFINITION. The four port operations (40_input_fifo.md, 42_host_interface.md). -/

namespace Sys2Proof.Machine

/-- `PUSH(b)` (R80, R81, R84). -/
def execPush (b : Byte) (s : State) : Host.Outcome State Fault Refusal :=
  .next (s.quiet.pushFifo b)

/-- `AVAIL` (R83): returns `COUNT`, no state changes. -/
def execAvail (s : State) : Host.Outcome State Fault Refusal :=
  .next (s.quiet.returning (.count (countWidth s.params.fifoDepth) s.count))

/-- `OBS_READ(n)` (R115): returns the port's value, no state changes; port 15 is refused. -/
def execObsRead (n : BitVec 4) (s : State) : Host.Outcome State Fault Refusal :=
  .next (if n = 15#4 then s.quiet.refusePort else s.quiet.returning (.port (s.portValue n)))

/-- `RESET_CFG(ch, pin)` (R110): a fresh instance, constructed if the configuration is valid, else `ConfigError`. -/
def execResetCfg (ch : Option ChannelId) (pin : PinId) (s : State) : Host.Outcome State Fault Refusal :=
  .next (if validate s.params ch pin = 0#3 then s.quiet.fresh.construct ch pin (availMask s.params ch)
         else s.quiet.fresh.raiseConfigError (validate s.params ch pin))

end Sys2Proof.Machine
end

