-- ==== Sys2Proof/Machine/Dispatch.lean ====
section
/-! DEFINITION. One arm per instruction. -/

namespace Sys2Proof.Machine

def exec (i : Instr) (s : State) : Host.Outcome State Fault Refusal :=
  match i with
  | .startDetect last => Sys2Proof.Machine.execStartDetect last s
  | .noiseDiscard last b => Sys2Proof.Machine.execNoiseDiscard last b s
  | .dataStore b => Sys2Proof.Machine.execDataStore b s
  | .dataStoreLast b => Sys2Proof.Machine.execDataStoreLast b s
  | .endOk last => Sys2Proof.Machine.execEndOk last s
  | .endFail last b => Sys2Proof.Machine.execEndFail last b s
  | .illegalState last b => Sys2Proof.Machine.execIllegalState last b s
  | .push b => Sys2Proof.Machine.execPush b s
  | .avail => Sys2Proof.Machine.execAvail s
  | .obsRead n => Sys2Proof.Machine.execObsRead n s
  | .resetCfg ch pin => Sys2Proof.Machine.execResetCfg ch pin s

end Sys2Proof.Machine
end

