-- ==== Sys2Proof/Machine/Fetch.lean ====
section
/-! DEFINITION. Whose turn it is, and which operation it runs: the schedule of R160 as the stimulus program of R75
gives it (log 4). -/

namespace Sys2Proof.Machine

/-- What the next turn comes to. -/
inductive Fetched
  /-- Operation `i` runs at `s`, the state with its turn taken off the schedule. -/
  | run (i : Instr) (s : State)
  /-- No operation runs; the step ends in `s`. -/
  | settled (s : State)
deriving DecidableEq, Repr

/-- The parser's turn (R90): the action its key selects, or none while it waits (R85, U7, U8). -/
def State.parserTurn (s : State) : Fetched :=
  match s.selected with
  | some i => .run i s
  | none => .settled s.quiet

/-- A port transaction: its word decoded, or refused `ReservedOp` (R73). -/
def State.portTurn (s : State) (w : OpWord) (side : Side) : Fetched :=
  match decodePort w side with
  | some i => .run i s
  | none => .settled s.quiet.refuseOp

/-- The next turn. `DRAIN` stays on the schedule until `COUNT == 0` (R75). With no turn pending the parser has every
turn, so a parser step that stays enabled is taken (R160), and the run has ended when it is not enabled (R161). -/
def State.fetch (s : State) : Fetched :=
  match s.stim with
  | .port w side :: rest => State.portTurn { s with stim := rest } w side
  | .parser :: rest => State.parserTurn { s with stim := rest }
  | .drain :: rest => if s.enabled then s.parserTurn else .settled { s with stim := rest }.quiet
  | [] => s.parserTurn

/-! ## Placing a bare table word where `fetch` finds it (log 8) -/

/-- The block with its parser about to form key `k` (R64) and the next turn the parser's: `STATE`, `LAST`, the FIFO's
head byte and `RUN` are what a key takes; the rest stays. -/
def State.placeKey (s : State) (k : OpWord) : State :=
  { s with
    run := true
    st := keyState k
    cursor := if keyLast k then 9 else if s.cursor = 9 then 0 else s.cursor
    fifo := keyByte k :: s.fifo.tail
    stim := .parser :: s.stim }

/-- The block with a port transaction of word `w` as its next turn, nothing beside the word. -/
def State.placePort (s : State) (w : OpWord) : State := { s with stim := .port w Side.empty :: s.stim }

/-- The block with a bare table word placed as its next operation, in the format `tableFormat` reads it in. -/
def State.placeTableWord (s : State) (nbits w : Nat) : State :=
  match tableWord nbits w with
  | some v =>
      match tableFormat v with
      | .key => s.placeKey v
      | .port => s.placePort v
  | none => s

end Sys2Proof.Machine
end

