-- ==== Sys2Proof/Machine/Step.lean ====
section
/-! DEFINITION. One atomic step of the block (R18, R47, R51): the next turn's operation, whole. -/

namespace Sys2Proof.Machine

/-- One step: the operation the next turn runs, or the turn that runs none. -/
def step (s : State) : Host.Outcome State Fault Refusal :=
  match s.fetch with
  | .run i t => exec i t
  | .settled t => .next t

/-- The state with a bare table word placed as the next operation (log 8). -/
def State.withFetchWord (s : State) (nbits w : Nat) : State := s.placeTableWord nbits w

end Sys2Proof.Machine
end

