-- ==== Sys2Proof/Machine/Stimulus.lean ====
section
/-! DEFINITION. The stimulus notation of R75 and R76 as lists of turns. A list of lines is their concatenation. -/

namespace Sys2Proof.Machine

/-- The turn of one port operation. -/
def portTurnOf (i : Instr) : Turn := .port (encodeWord i) (encodeSide i)

/-- `RESET ch, pin`. -/
def stimReset (ch : Option ChannelId) (pin : PinId) : List Turn := [portTurnOf (.resetCfg ch pin)]

/-- `PUSH b1 ... bn`: no parser step in between. -/
def stimPush (bs : List Byte) : List Turn := bs.map fun b => portTurnOf (.push b)

/-- `DRAIN`. -/
def stimDrain : List Turn := [.drain]

/-- `FEED b1 ... bn`: for each byte a push, then one parser step. -/
def stimFeed (bs : List Byte) : List Turn := bs.flatMap fun b => [portTurnOf (.push b), .parser]

/-- `AVAIL`. -/
def stimAvail : List Turn := [portTurnOf .avail]

/-- `OBS n`. -/
def stimObs (n : BitVec 4) : List Turn := [portTurnOf (.obsRead n)]

/-- `FRAME p0 ... p9` (R76). -/
def stimFrame (p : List Byte) : List Turn := stimFeed (Config.startByte :: p ++ [Config.endByte])

/-- `BADFRAME p0 ... p9 t`, with `t` not the end byte (R76). -/
def stimBadFrame (p : List Byte) (t : Byte) : List Turn := stimFeed (Config.startByte :: p ++ [t])

/-- `NOISE b1 ... bn`, no byte the start byte (R76). -/
def stimNoise (bs : List Byte) : List Turn := stimFeed bs

end Sys2Proof.Machine
end

