-- ==== Sys2Proof/Safety.lean ====
section
/-! DEFINITION. What claims are stated in terms of: the invariant of a block (R25 and the other standing facts of
10_state.md), a safe state, complete events, and "unchanged" for each part of the state. -/

namespace Sys2Proof.Machine

/-! ## Runs -/

/-- `n` steps in a row, stopping at the first fault or refusal: the host's `Host.Core.run` for this machine
(`steps_eq_run`, Laws/Ops.lean). -/
def steps : Nat → State → Host.Outcome State Fault Refusal
  | 0, s => .next s
  | n + 1, s =>
    match step s with
    | .next t => steps n t
    | .fault r => .fault r
    | .refused r => .refused r

/-! ## Complete events -/

/-- The event is a `Success` of exactly ten bytes, none `UNDEF` (R24, R33), or a `Failure`. -/
def Evt.complete : Evt → Bool
  | .none => false
  | .success p => p.length == 10 && p.all Option.isSome
  | .failure => true

/-! ## The invariant -/

/-- Every cell of `BUF` holds a byte. -/
abbrev BufFull (m : Memory) : Prop := ∀ k < 10, (m.read k).isSome = true

/-- Every cell of `BUF` is `UNDEF`. -/
abbrev BufUndef (m : Memory) : Prop := ∀ k < 10, m.read k = none

/-- R25: the legal pairs of `STATE` and `CURSOR`, and the buffer in each. -/
abbrev ParserInv (s : State) : Prop :=
  s.st ≠ .reserved
  ∧ (s.st = .awaitingStart → (s.cursor = 0 ∧ BufUndef s.buf) ∨ (s.cursor = 10 ∧ BufFull s.buf))
  ∧ (s.st = .awaitingData →
      s.cursor.toNat ≤ 9 ∧ BufFull s.buf ∧ ∀ k < 10, s.cursor.toNat ≤ k → s.buf.read k = some 0)
  ∧ (s.st = .awaitingEnd → s.cursor = 10 ∧ BufFull s.buf)

/-- The lifecycle facts of R28 to R32 and R36: what the configuration registers hold with `RUN == 1` and with
`RUN == 0`. -/
abbrev LifecycleInv (s : State) : Prop :=
  (s.run = true →
      s.cfgErr = 0 ∧ s.enN = .high
      ∧ ∃ c ∈ s.params.channels, ∃ p ∈ s.params.pins,
          s.channel = some c ∧ s.enPin = some p ∧ p ∉ reservedPins s.params c
          ∧ s.availPins = availMask s.params (some c))
  ∧ (s.run = false →
      s.cfgErr.toNat ≤ 4 ∧ s.enN = .z ∧ s.channel = none ∧ s.enPin = none ∧ s.availPins = 0
      ∧ s.st = .awaitingStart ∧ s.cursor = 0 ∧ BufUndef s.buf ∧ s.fifo = [] ∧ s.ovr = false)

/-- A safe state: no fault is recorded (R134: "which no reachable run of the block raises"). -/
abbrev Safe (s : State) : Prop := s.fault = none

/-- The invariant every step keeps, from every state that has it. -/
abbrev BlockInv (s : State) : Prop :=
  s.params.Ok
  ∧ ParserInv s
  ∧ s.buf.wf = true
  ∧ s.count ≤ s.params.fifoDepth
  ∧ LifecycleInv s
  ∧ Safe s
  ∧ (s.evt = .none ∨ s.evt.complete = true)
  ∧ (∀ e ∈ s.events, e.complete = true)

/-! ## Unchanged parts -/

/-- The parameters, the configuration registers and the enable line are as before (R28 to R32). -/
structure SameConfig (s t : State) : Prop where
  params    : t.params = s.params
  run       : t.run = s.run
  cfgErr    : t.cfgErr = s.cfgErr
  channel   : t.channel = s.channel
  enPin     : t.enPin = s.enPin
  availPins : t.availPins = s.availPins
  enN       : t.enN = s.enN

/-- `STATE`, `CURSOR` and every cell of `BUF` are as before. -/
structure SameParser (s t : State) : Prop where
  st     : t.st = s.st
  cursor : t.cursor = s.cursor
  buf    : ∀ k, t.buf.read k = s.buf.read k

/-- The FIFO and `OVR` are as before. -/
structure SameInput (s t : State) : Prop where
  fifo : t.fifo = s.fifo
  ovr  : t.ovr = s.ovr

/-- The fault record and both refusal marks are as before (R134). -/
structure SameRecords (s t : State) : Prop where
  fault       : t.fault = s.fault
  refusedOp   : t.refusedOp = s.refusedOp
  refusedPort : t.refusedPort = s.refusedPort

/-- The step emitted nothing. -/
structure Silent (s t : State) : Prop where
  evt    : t.evt = .none
  events : t.events = s.events

/-- The step emitted exactly the event `e`. -/
structure Emitted (e : Evt) (s t : State) : Prop where
  evt    : t.evt = e
  events : t.events = s.events ++ [e]

end Sys2Proof.Machine
end

