-- ==== Sys2Proof/Certificates/Slice0/Obligations.lean ====
section
/-! DEFINITION. The statements about the block, for the provers. `exec i s = .next t` is one operation; `step` is one
turn of the schedule; `steps n` is `n` of them. Log numbers are notes/assumptions. Every frame also names the model's
own fields: `ret`, `evt` and `events` (the outputs of a step, log 5) and `stim` (the turns to come, log 4). -/

open Sys2Proof Sys2Proof.Machine

/-! ## Power-on and the invariant -/

/-- R151, R36: the power-on column. -/
def Obligations.PowerOnIsNotConstructed : Prop :=
  State.reset.run = false ∧ State.reset.cfgErr = 0#3 ∧ State.reset.channel = none ∧ State.reset.enPin = none
  ∧ State.reset.availPins = 0 ∧ State.reset.enN = .z ∧ State.reset.st = .awaitingStart ∧ State.reset.cursor = 0#4
  ∧ (∀ k, State.reset.buf.read k = none) ∧ State.reset.fifo = [] ∧ State.reset.count = 0
  ∧ State.reset.ovr = false

/-- R25 and 10_state.md at power-on; the parameters are any that R11 and R12 allow (log 1). That no fault is on record
(R134 names the record and gives it no power-on value) and that no event is out are the MODEL's choice (log 20). -/
def Obligations.PowerOnHasInvariant : Prop := BlockInv State.reset

/-- R25 ("which every step preserves"), with the standing facts of R24, R26, R28 to R32 and R134. -/
def Obligations.StepKeepsInvariant : Prop :=
  ∀ s t : State, BlockInv s → step s = .next t → BlockInv t

/-! ## Encodings -/

/-- R61, R64: the state codes and the three fields of the key the parser forms; and, in a state of the invariant, the
reserved code is not there and `LAST` is 1 only in `AwaitingData` with `CURSOR == 9`. -/
def Obligations.KeyHasStateLastAndByte : Prop :=
  ParserState.awaitingStart.code = 0b00#2 ∧ ParserState.awaitingData.code = 0b01#2
  ∧ ParserState.awaitingEnd.code = 0b10#2 ∧ ParserState.reserved.code = 0b11#2
  ∧ ∀ (s : State) (b : Byte),
      (s.keyFor b).extractLsb' 9 2 = s.st.code
      ∧ (s.keyFor b).getLsbD 8 = decide (s.cursor = 9#4)
      ∧ (s.keyFor b).extractLsb' 0 8 = b
      ∧ (BlockInv s → s.st.code ≠ 0b11#2
          ∧ ((s.keyFor b).getLsbD 8 = true → s.st = .awaitingData ∧ s.cursor = 9#4))

/-- R65: the action map by match, mask and priority, and every key has exactly one action (the spec's own inference:
"[derived: from this table; ...]"). -/
def Obligations.KeyActionMap : Prop :=
  ∀ k : OpWord,
    (decodeKey k = .startDetect (keyLast k) ↔ k &&& 0x6FF#11 = 0x00A#11)
    ∧ (decodeKey k = .noiseDiscard (keyLast k) (keyByte k) ↔ k &&& 0x600#11 = 0x000#11 ∧ k &&& 0x6FF#11 ≠ 0x00A#11)
    ∧ (decodeKey k = .dataStore (keyByte k) ↔ k &&& 0x700#11 = 0x200#11)
    ∧ (decodeKey k = .dataStoreLast (keyByte k) ↔ k &&& 0x700#11 = 0x300#11)
    ∧ (decodeKey k = .endOk (keyLast k) ↔ k &&& 0x6FF#11 = 0x40D#11)
    ∧ (decodeKey k = .endFail (keyLast k) (keyByte k) ↔ k &&& 0x600#11 = 0x400#11 ∧ k &&& 0x6FF#11 ≠ 0x40D#11)
    ∧ (decodeKey k = .illegalState (keyLast k) (keyByte k) ↔ k &&& 0x600#11 = 0x600#11)
    ∧ ∀ op : Op, rowWins keyTable k op = true ↔ op = (decodeKey k).op

/-- R73: the port words; every other word has no operation (what its refusal is: `ReservedPortWordIsRefused`). -/
def Obligations.PortWordMap : Prop :=
  ∀ side : Side,
    (∀ b : Byte, decodePort (b.setWidth 11) side = some (.push b))
    ∧ decodePort 0x100#11 side = some .avail
    ∧ (∀ n : BitVec 4, decodePort (0x200#11 ||| n.setWidth 11) side = some (.obsRead n))
    ∧ decodePort 0x300#11 side = some (.resetCfg side.ch side.pin)
    ∧ ∀ w : OpWord,
        (0x100 < w.toNat ∧ w.toNat < 0x200) ∨ (0x20F < w.toNat ∧ w.toNat < 0x300) ∨ 0x300 < w.toNat →
        decodePort w side = none

/-- Decoding the words of any well-formed instruction gives it back, and no bit of a word is dropped (R64, R65, R73). -/
def Obligations.DecodeEncodeAgree : Prop :=
  (∀ i : Instr, i.wf = true → decode (encode i).1 (encode i).2.1 (encode i).2.2 = some i)
  ∧ (∀ (k : OpWord) (side : Side), ∃ i, decode .key k side = some i ∧ i.wf = true ∧ i.format = .key ∧ encodeWord i = k)
  ∧ (∀ (w : OpWord) (side : Side) (i : Instr), decode .port w side = some i →
      i.wf = true ∧ i.format = .port ∧ encodeWord i = w)

/-- Words of 95_test_vectors.md (K1 to K17, O12), written out from R64 and R73. -/
def Obligations.SampleWordsDecode : Prop :=
  decodeKey 0b00_0_00001010#11 = .startDetect false
  ∧ decodeKey 0b00_0_00001101#11 = .noiseDiscard false 0x0D#8
  ∧ decodeKey 0b01_0_00001010#11 = .dataStore 0x0A#8
  ∧ decodeKey 0b01_1_00001010#11 = .dataStoreLast 0x0A#8
  ∧ decodeKey 0b10_0_00001101#11 = .endOk false
  ∧ decodeKey 0b10_0_00001010#11 = .endFail false 0x0A#8
  ∧ decodeKey 0b11_0_00000000#11 = .illegalState false 0x00#8
  ∧ decodePort 0b000_11111111#11 Side.empty = some (.push 0xFF#8)
  ∧ decodePort 0b001_00000000#11 Side.empty = some .avail
  ∧ decodePort 0b010_0000_0101#11 Side.empty = some (.obsRead 5#4)
  ∧ decodePort 0b011_00000000#11 { ch := some 1, pin := 2 } = some (.resetCfg (some 1) 2)

/-! ## A step runs the decoded operation -/

/-- R72, R73, R134: a port word that has no operation is refused `ReservedOp`, and nothing else changes. That the step
answers a next state with the mark set is the model's form of a refusal (log 7); turns are log 4. -/
def Obligations.ReservedPortWordIsRefused : Prop :=
  ∀ (s : State) (w : OpWord) (side : Side) (rest : List Turn), s.stim = .port w side :: rest →
    decodePort w side = none →
    ∃ t, step s = .next t ∧ t.refusedOp = true ∧ t.ret = .refused .reservedOp
      ∧ t.refusedPort = s.refusedPort ∧ t.fault = s.fault ∧ t.stim = rest
      ∧ SameConfig s t ∧ SameParser s t ∧ SameInput s t ∧ Silent s t

/-- A port turn runs the operation its word decodes to, at the state with the turn taken off (R73; log 4). -/
def Obligations.StepRunsPortWord : Prop :=
  ∀ (s : State) (w : OpWord) (side : Side) (rest : List Turn) (i : Instr),
    s.stim = .port w side :: rest → decodePort w side = some i → step s = exec i { s with stim := rest }

/-- R90: on the parser's turn the head byte of the FIFO and the state form a key, and the step is the action it selects.
The parser's turns are a `parser` turn, a `DRAIN` not yet done, and every turn once none is pending (log 4). -/
def Obligations.StepRunsSelectedAction : Prop :=
  ∀ (s : State) (b : Byte) (bs : List Byte), s.run = true → s.fifo = b :: bs →
    (s.stim = [] → step s = exec (decodeKey (keyWord s.st (lastFlag s.cursor) b)) s)
    ∧ (∀ rest, s.stim = .drain :: rest → step s = exec (decodeKey (keyWord s.st (lastFlag s.cursor) b)) s)
    ∧ (∀ rest, s.stim = .parser :: rest →
        step s = exec (decodeKey (keyWord s.st (lastFlag s.cursor) b)) { s with stim := rest })

/-- R85: the parser step is enabled exactly when `RUN == 1` and `COUNT > 0`; where it is not, the parser's turn leaves
the block as it is (a `DRAIN` is then done and leaves the schedule, R75), and a later `PUSH` enables it. Turns are the
model's choice (log 4). -/
def Obligations.ParserEnabledExactly : Prop :=
  ∀ s : State,
    (s.selected.isSome = true ↔ s.run = true ∧ 0 < s.count)
    ∧ (¬ (s.run = true ∧ 0 < s.count) →
        s.stim = [] ∨ (∃ rest, s.stim = .parser :: rest) ∨ (∃ rest, s.stim = .drain :: rest) →
        ∃ t, step s = .next t ∧ t.stim = s.stim.tail ∧ t.ret = .none
          ∧ SameConfig s t ∧ SameParser s t ∧ SameInput s t ∧ SameRecords s t ∧ Silent s t)
    ∧ (s.run = true → s.count = 0 → 1 ≤ s.params.fifoDepth → ∀ b,
        ∃ t, exec (.push b) s = .next t ∧ t.selected.isSome = true)

/-- No step stops the machine, and no step changes the parameters (log 6, log 7, log 1). -/
def Obligations.StepAlwaysAnswersNext : Prop :=
  ∀ s : State, ∃ t, step s = .next t ∧ t.params = s.params

/-! ## The parser's actions -/

/-- R92. -/
def Obligations.StartDetectResult : Prop :=
  (∀ k : OpWord, k &&& 0x6FF#11 = 0x00A#11 ↔ decodeKey k = .startDetect (keyLast k))
  ∧ ∀ (s : State) (rest : List Byte), s.run = true → s.st = .awaitingStart → s.fifo = 0x0A#8 :: rest →
      ∃ t, exec (.startDetect (lastFlag s.cursor)) s = .next t
        ∧ t.st = .awaitingData ∧ t.cursor = 0#4 ∧ (∀ k < 10, t.buf.read k = some 0x00#8)
        ∧ t.fifo = rest ∧ t.ovr = s.ovr ∧ t.ret = .none ∧ t.stim = s.stim
        ∧ SameConfig s t ∧ SameRecords s t ∧ Silent s t

/-- R93: only the pop. -/
def Obligations.NoiseDiscardResult : Prop :=
  (∀ k : OpWord, (k &&& 0x600#11 = 0x000#11 ∧ k &&& 0x6FF#11 ≠ 0x00A#11)
      ↔ decodeKey k = .noiseDiscard (keyLast k) (keyByte k))
  ∧ ∀ (s : State) (b : Byte) (rest : List Byte), s.run = true → s.st = .awaitingStart → s.fifo = b :: rest →
      b ≠ 0x0A#8 →
      ∃ t, exec (.noiseDiscard (lastFlag s.cursor) b) s = .next t
        ∧ t.fifo = rest ∧ t.ovr = s.ovr ∧ t.ret = .none ∧ t.stim = s.stim
        ∧ SameConfig s t ∧ SameParser s t ∧ SameRecords s t ∧ Silent s t

/-- R94: the store, and the fault with `CURSOR >= 10`. That a fault is a record in a next state is the model's form of it
(log 6). -/
def Obligations.DataStoreResult : Prop :=
  (∀ k : OpWord, k &&& 0x700#11 = 0x200#11 ↔ decodeKey k = .dataStore (keyByte k))
  ∧ (∀ (s : State) (b : Byte) (rest : List Byte), s.run = true → s.st = .awaitingData → s.fifo = b :: rest →
      s.cursor.toNat ≤ 8 →
      ∃ t, exec (.dataStore b) s = .next t
        ∧ t.buf.read s.cursor.toNat = some b ∧ (∀ k, k ≠ s.cursor.toNat → t.buf.read k = s.buf.read k)
        ∧ t.cursor.toNat = s.cursor.toNat + 1 ∧ t.st = .awaitingData
        ∧ t.fifo = rest ∧ t.ovr = s.ovr ∧ t.ret = .none ∧ t.stim = s.stim
        ∧ SameConfig s t ∧ SameRecords s t ∧ Silent s t)
  ∧ ∀ (s : State) (b : Byte) (rest : List Byte), s.run = true → s.st = .awaitingData → s.fifo = b :: rest →
      10 ≤ s.cursor.toNat →
      ∃ t, exec (.dataStore b) s = .next t ∧ t.fault = some .illegalState
        ∧ t.refusedOp = s.refusedOp ∧ t.refusedPort = s.refusedPort ∧ t.ret = .none ∧ t.stim = s.stim
        ∧ SameConfig s t ∧ SameParser s t ∧ SameInput s t ∧ Silent s t

/-- R95. -/
def Obligations.DataStoreLastResult : Prop :=
  (∀ k : OpWord, k &&& 0x700#11 = 0x300#11 ↔ decodeKey k = .dataStoreLast (keyByte k))
  ∧ ∀ (s : State) (b : Byte) (rest : List Byte), s.run = true → s.st = .awaitingData → s.fifo = b :: rest →
      s.cursor = 9#4 →
      ∃ t, exec (.dataStoreLast b) s = .next t
        ∧ t.buf.read 9 = some b ∧ (∀ k, k ≠ 9 → t.buf.read k = s.buf.read k)
        ∧ t.cursor = 10#4 ∧ t.st = .awaitingEnd
        ∧ t.fifo = rest ∧ t.ovr = s.ovr ∧ t.ret = .none ∧ t.stim = s.stim
        ∧ SameConfig s t ∧ SameRecords s t ∧ Silent s t

/-- R96: the payload is a copy of the ten cells, in index order. That in a state of the invariant every one is a byte
and `CURSOR` is 10 is the spec's own inference ("[derived: from rules R92, R94 and R95 ...]"). Outside the invariant an
`UNDEF` cell is copied as it is, the MODEL's choice (log 10). -/
def Obligations.EndOkResult : Prop :=
  (∀ k : OpWord, k &&& 0x6FF#11 = 0x40D#11 ↔ decodeKey k = .endOk (keyLast k))
  ∧ ∀ (s : State) (rest : List Byte), s.run = true → s.st = .awaitingEnd → s.fifo = 0x0D#8 :: rest →
      ∃ t p, exec (.endOk (lastFlag s.cursor)) s = .next t
        ∧ Emitted (.success p) s t ∧ p.length = 10 ∧ (∀ k < 10, p[k]? = some (s.buf.read k))
        ∧ t.st = .awaitingStart ∧ t.cursor = s.cursor ∧ (∀ k, t.buf.read k = s.buf.read k)
        ∧ t.fifo = rest ∧ t.ovr = s.ovr ∧ t.ret = .none ∧ t.stim = s.stim
        ∧ SameConfig s t ∧ SameRecords s t
        ∧ (BlockInv s → t.cursor = 10#4 ∧ t.evt.complete = true)

/-- R97: a `Failure`, with no payload. -/
def Obligations.EndFailResult : Prop :=
  (∀ k : OpWord, (k &&& 0x600#11 = 0x400#11 ∧ k &&& 0x6FF#11 ≠ 0x40D#11)
      ↔ decodeKey k = .endFail (keyLast k) (keyByte k))
  ∧ ∀ (s : State) (b : Byte) (rest : List Byte), s.run = true → s.st = .awaitingEnd → s.fifo = b :: rest →
      b ≠ 0x0D#8 →
      ∃ t, exec (.endFail (lastFlag s.cursor) b) s = .next t
        ∧ Emitted .failure s t ∧ t.evt.payloadWord = none
        ∧ t.st = .awaitingStart ∧ t.cursor = s.cursor ∧ (∀ k, t.buf.read k = s.buf.read k)
        ∧ t.fifo = rest ∧ t.ovr = s.ovr ∧ t.ret = .none ∧ t.stim = s.stim
        ∧ SameConfig s t ∧ SameRecords s t

/-- R98: the fault is recorded and nothing else is written, not even the pop; no operation but `RESET_CFG` clears it; no
state of the invariant has its key. That a fault is a record in a next state is the model's form of it (log 6). -/
def Obligations.IllegalStateRecordsFault : Prop :=
  (∀ k : OpWord, k &&& 0x600#11 = 0x600#11 ↔ decodeKey k = .illegalState (keyLast k) (keyByte k))
  ∧ (∀ (s : State) (b : Byte) (rest : List Byte), s.run = true → s.st = .reserved → s.fifo = b :: rest →
      ∃ t, exec (.illegalState (lastFlag s.cursor) b) s = .next t ∧ t.fault = some .illegalState
        ∧ t.refusedOp = s.refusedOp ∧ t.refusedPort = s.refusedPort ∧ t.ret = .none ∧ t.stim = s.stim
        ∧ SameConfig s t ∧ SameParser s t ∧ SameInput s t ∧ Silent s t)
  ∧ (∀ (i : Instr) (s t : State), exec i s = .next t → s.fault = some .illegalState →
      (i.op = .resetCfg → t.fault = none) ∧ (i.op ≠ .resetCfg → t.fault = some .illegalState))
  ∧ ∀ (s : State) (last : Bool) (b : Byte), BlockInv s → s.selected ≠ some (.illegalState last b)

/-- An action that the parser's key does not select is no step of the block: nothing changes and nothing is put out
(the MODEL's choice, log 9; R85, R90). -/
def Obligations.UnselectedActionDoesNothing : Prop :=
  ∀ (i : Instr) (s : State), i.format = .key → s.selected ≠ some i →
    ∃ t, exec i s = .next t ∧ t.ret = .none ∧ t.stim = s.stim
      ∧ SameConfig s t ∧ SameParser s t ∧ SameInput s t ∧ SameRecords s t ∧ Silent s t

/-! ## The FIFO -/

/-- R80: the word and the three outcomes of a `PUSH`. (That `FIFO_NE` becomes 1 is the spec's own inference: "[derived:
from 30_encoding.md rule R66]".) -/
def Obligations.PushResult : Prop :=
  (∀ (w : OpWord) (side : Side) (b : Byte), decodePort w side = some (.push b) ↔ w = b.setWidth 11)
  ∧ ∀ (s : State) (b : Byte), ∃ t, exec (.push b) s = .next t
    ∧ t.ret = .none ∧ t.stim = s.stim ∧ SameConfig s t ∧ SameParser s t ∧ SameRecords s t ∧ Silent s t
    ∧ (s.run = false → t.fifo = s.fifo ∧ t.ovr = s.ovr)
    ∧ (s.run = true → s.count < s.params.fifoDepth →
        t.fifo = s.fifo ++ [b] ∧ t.count = s.count + 1 ∧ t.ovr = s.ovr ∧ t.fifoNe = true)
    ∧ (s.run = true → s.params.fifoDepth ≤ s.count → t.fifo = s.fifo ∧ t.count = s.count ∧ t.ovr = true)

/-- R81: a push into a full FIFO loses the byte and sets `OVR`; nothing else sets it, and only `RESET_CFG` clears it. -/
def Obligations.OverrunIsSticky : Prop :=
  (∀ (s : State) (b : Byte), s.run = true → s.count = s.params.fifoDepth →
    ∃ t, exec (.push b) s = .next t ∧ t.fifo = s.fifo ∧ t.count = s.count ∧ t.ovr = true ∧ t.ret = .none
      ∧ t.stim = s.stim ∧ SameConfig s t ∧ SameParser s t ∧ SameRecords s t ∧ Silent s t)
  ∧ ∀ (i : Instr) (s t : State), exec i s = .next t →
      (i.op = .resetCfg → t.ovr = false)
      ∧ (i.op ≠ .resetCfg →
          (t.ovr = true ↔ s.ovr = true ∨ (i.op = .push ∧ s.run = true ∧ s.params.fifoDepth ≤ s.count)))

/-- R84: with `RUN == 0` a push changes nothing and the parser has no step. -/
def Obligations.NoReaderNoInput : Prop :=
  ∀ s : State, s.run = false →
    s.selected = none
    ∧ (BlockInv s → s.count = 0)
    ∧ ∀ b, ∃ t, exec (.push b) s = .next t ∧ t.ret = .none ∧ t.stim = s.stim
        ∧ SameConfig s t ∧ SameParser s t ∧ SameInput s t ∧ SameRecords s t ∧ Silent s t

/-- R83: `AVAIL` returns `COUNT` and changes no state. That the answer is 0 with `RUN == 0` (in a state of the
invariant) is the spec's own inference ("[derived: from rule R84 and 10_state.md rule R36]"). -/
def Obligations.AvailResult : Prop :=
  (∀ (w : OpWord) (side : Side), decodePort w side = some .avail ↔ w = 0x100#11)
  ∧ ∀ s : State, ∃ t, exec .avail s = .next t
    ∧ t.ret = .count (countWidth s.params.fifoDepth) s.fifo.length
    ∧ (BlockInv s → s.run = false → s.fifo.length = 0)
    ∧ t.stim = s.stim ∧ SameConfig s t ∧ SameParser s t ∧ SameInput s t ∧ SameRecords s t ∧ Silent s t

/-- R67, the spec's own inference from R11: `CW` is the least width that holds `FIFO_DEPTH`, and `COUNT` is at most `FIFO_DEPTH`. -/
def Obligations.CountWidthIsLeast : Prop :=
  (∀ d : Nat, d < 2 ^ countWidth d ∧ ∀ w, d < 2 ^ w → countWidth d ≤ w)
  ∧ ∀ s : State, BlockInv s → s.count ≤ s.params.fifoDepth

/-- R48: an operation takes the oldest byte, adds a newest one, leaves the FIFO, or (`RESET_CFG`) empties it; only a
selected parser action takes, and the byte it takes is the one its key was formed from. -/
def Obligations.FifoKeepsOrder : Prop :=
  ∀ (i : Instr) (s t : State), exec i s = .next t →
    (i.format = .key → t.fifo = s.fifo ∨ (s.selected = some i
      ∧ ∃ b, s.fifo = b :: t.fifo ∧ decodeKey (s.keyFor b) = i))
    ∧ (∀ b, i = .push b → t.fifo = s.fifo ∨ t.fifo = s.fifo ++ [b])
    ∧ (i.op = .resetCfg → t.fifo = [])
    ∧ (i.op = .avail ∨ i.op = .obsRead → t.fifo = s.fifo)

/-! ## Construction and observation -/

/-- R110: both branches of `RESET_CFG`, with every element of R36; the recorded fault is cleared (R98, R134). That the
refusal marks stay is R134, and that they are fields of the state is the MODEL's choice (log 7), as it is that the event
list and the pending turns outlive the operation (log 19). -/
def Obligations.ResetCfgResult : Prop :=
  (∀ (w : OpWord) (side : Side), decodePort w side = some (.resetCfg side.ch side.pin) ↔ w = 0x300#11)
  ∧ ∀ (s : State) (ch : Option ChannelId) (pin : PinId), ∃ t, exec (.resetCfg ch pin) s = .next t
    ∧ t.st = .awaitingStart ∧ t.cursor = 0#4 ∧ (∀ k, t.buf.read k = none) ∧ t.fifo = [] ∧ t.count = 0
    ∧ t.ovr = false ∧ t.fault = none ∧ t.fifoNe = false ∧ Silent s t
    ∧ t.refusedOp = s.refusedOp ∧ t.refusedPort = s.refusedPort ∧ t.params = s.params ∧ t.stim = s.stim
    ∧ (validate s.params ch pin = 0#3 →
        ∃ c, ch = some c ∧ t.channel = some c ∧ t.enPin = some pin ∧ t.availPins = availMask s.params (some c)
          ∧ t.enN = .high ∧ t.cfgErr = 0#3 ∧ t.run = true ∧ t.ret = .none)
    ∧ (validate s.params ch pin ≠ 0#3 →
        t.channel = none ∧ t.enPin = none ∧ t.availPins = 0 ∧ t.enN = .z
          ∧ t.cfgErr = validate s.params ch pin ∧ t.run = false
          ∧ t.ret = .configError (validate s.params ch pin))

/-- R111, R130: the five answers, in their order; a construction records the answer and raises it when it is not 0, no
other operation raises one, and codes 5 to 7 are never written. -/
def Obligations.ValidateAnswersFirstCause : Prop :=
  (∀ (p : Config.Params) (pin : PinId),
    validate p none pin = 1#3
    ∧ ∀ c : ChannelId,
        (c ∉ p.channels → validate p (some c) pin = 2#3)
        ∧ (c ∈ p.channels → pin ∈ reservedPins p c → validate p (some c) pin = 3#3)
        ∧ (c ∈ p.channels → pin ∉ reservedPins p c → pin ∉ p.pins → validate p (some c) pin = 4#3)
        ∧ (c ∈ p.channels → pin ∉ reservedPins p c → pin ∈ p.pins → validate p (some c) pin = 0#3))
  ∧ (∀ (s t : State) (ch : Option ChannelId) (pin : PinId), exec (.resetCfg ch pin) s = .next t →
      t.cfgErr = validate s.params ch pin
      ∧ ∀ c, t.ret = .configError c ↔ validate s.params ch pin = c ∧ c ≠ 0#3)
  ∧ ∀ (i : Instr) (s t : State), exec i s = .next t →
      (i.op ≠ .resetCfg → ∀ c, t.ret ≠ .configError c) ∧ (s.cfgErr.toNat ≤ 4 → t.cfgErr.toNat ≤ 4)

/-- R116: what a construction comes to depends on its operands and the parameters alone. -/
def Obligations.ConstructionIsRepeatable : Prop :=
  ∀ (s s' t t' : State) (ch : Option ChannelId) (pin : PinId), s.params = s'.params →
    exec (.resetCfg ch pin) s = .next t → exec (.resetCfg ch pin) s' = .next t' →
    SameConfig t t' ∧ SameParser t t' ∧ SameInput t t' ∧ t.ret = t'.ret ∧ t.fault = t'.fault

/-- R112: bit `k` of the mask is 1 exactly when `PINS[k]` is not reserved by the channel, and no operation but
`RESET_CFG` changes `AVAILPINS`. -/
def Obligations.AvailMaskBits : Prop :=
  (∀ (p : Config.Params) (c : ChannelId) (k : Nat),
    (availMask p (some c)).testBit k = true ↔ ∃ q, p.pins[k]? = some q ∧ q ∉ reservedPins p c)
  ∧ ∀ (i : Instr) (s t : State), exec i s = .next t → i.op ≠ .resetCfg → t.availPins = s.availPins

/-- R117: no operation but `RESET_CFG` changes the configuration. -/
def Obligations.ConfigurationIsImmutable : Prop :=
  ∀ (i : Instr) (s t : State), exec i s = .next t → i.op ≠ .resetCfg → SameConfig s t

/-- R113: the enable line is driven high by a valid construction, changed by no other operation, and never low. -/
def Obligations.EnableLineNeverLow : Prop :=
  (∀ (s t : State) (ch : Option ChannelId) (pin : PinId), validate s.params ch pin = 0#3 →
    exec (.resetCfg ch pin) s = .next t → t.enN = .high)
  ∧ (∀ (i : Instr) (s t : State), exec i s = .next t → i.op ≠ .resetCfg → t.enN = s.enN)
  ∧ ∀ s t : State, s.enN ≠ .low → step s = .next t → t.enN ≠ .low

/-- R115, R68: the fifteen ports, and port 15 refused with nothing else changed. That the refusal is a mark in a next
state is the model's form of it (log 7). -/
def Obligations.ObsReadResult : Prop :=
  (∀ (w : OpWord) (side : Side) (n : BitVec 4), decodePort w side = some (.obsRead n) ↔ w = 0x200#11 ||| n.setWidth 11)
  ∧ (∀ (s : State) (n : BitVec 4), n ≠ 15#4 → ∃ t v, exec (.obsRead n) s = .next t ∧ t.ret = .port v
    ∧ t.stim = s.stim ∧ SameConfig s t ∧ SameParser s t ∧ SameInput s t ∧ SameRecords s t ∧ Silent s t
    ∧ (n = 0#4 → v = .status s.status)
    ∧ (n = 1#4 → v = .count (countWidth s.params.fifoDepth) s.fifo.length)
    ∧ (n = 2#4 → (∀ c, s.channel = some c → v = .channel c) ∧ (s.channel = none → v = .noValue))
    ∧ (n = 3#4 → (∀ p, s.enPin = some p → v = .pin p) ∧ (s.enPin = none → v = .noValue))
    ∧ (n = 4#4 → v = .availPins s.params.pins.length s.availPins)
    ∧ (5 ≤ n.toNat → (∀ b, s.buf.read (n.toNat - 5) = some b → v = .bufByte b)
        ∧ (s.buf.read (n.toNat - 5) = none → v = .noValue))
    ∧ (BlockInv s → s.run = false → n = 2#4 ∨ n = 3#4 → v = .noValue))
  ∧ ∀ s : State, ∃ t, exec (.obsRead 15#4) s = .next t ∧ t.refusedPort = true ∧ t.ret = .refused .reservedPort
      ∧ t.refusedOp = s.refusedOp ∧ t.fault = s.fault ∧ t.stim = s.stim
      ∧ SameConfig s t ∧ SameParser s t ∧ SameInput s t ∧ Silent s t

/-- R66: the fields of the status word, and its values after a construction. -/
def Obligations.StatusWordLayout : Prop :=
  (∀ s : State,
    s.status.extractLsb' 0 2 = s.st.code ∧ s.status.extractLsb' 2 4 = s.cursor
    ∧ s.status.getLsbD 6 = s.ovr ∧ s.status.getLsbD 7 = s.run ∧ s.status.extractLsb' 8 3 = s.cfgErr
    ∧ s.status.getLsbD 11 = decide (s.enN ≠ .z) ∧ s.status.getLsbD 12 = decide (s.enN = .high)
    ∧ s.status.getLsbD 13 = decide (0 < s.count) ∧ s.status.extractLsb' 14 2 = 0#2
    ∧ (BlockInv s → s.status.getLsbD 11 = s.run ∧ s.status.getLsbD 12 = s.run))
  ∧ ∀ (s t : State) (ch : Option ChannelId) (pin : PinId), exec (.resetCfg ch pin) s = .next t →
      (t.run = true → t.status = 0x1880#16)
      ∧ (t.run = false → t.status = (validate s.params ch pin).setWidth 16 <<< 8)

/-! ## Events -/

/-- R69, R70, R42: the event codes, and payload byte `k` at bits `8k+7` to `8k`. -/
def Obligations.EventWordLayout : Prop :=
  (∀ e : Evt, (e = .none ↔ e.kind = 0b00#2) ∧ ((∃ p, e = .success p) ↔ e.kind = 0b01#2)
    ∧ (e = .failure ↔ e.kind = 0b10#2) ∧ e.kind ≠ 0b11#2 ∧ (e.kind ≠ 0b01#2 → e.payloadWord = none))
  ∧ ∀ p : List Byte, p.length = 10 →
      ∃ w, (Evt.success (p.map some)).payloadWord = some w ∧ ∀ k < 10, p[k]? = some (w.extractLsb' (8 * k) 8)

/-- R101, R102, R114: a step emits at most one event; one that emits has `RUN == 1`, starts in `AwaitingEnd` and ends in
`AwaitingStart`; and a parser action selected in `AwaitingEnd` always emits one. -/
def Obligations.OneEventPerFrameEnd : Prop :=
  (∀ s t : State, step s = .next t →
    Silent s t
    ∨ (s.run = true ∧ s.st = .awaitingEnd ∧ t.st = .awaitingStart
        ∧ (Emitted .failure s t ∨ Emitted (.success s.buf.cells) s t)))
  ∧ ∀ (i : Instr) (s t : State), i.format = .key → s.selected = some i → exec i s = .next t →
      (s.st = .awaitingEnd → ∃ e, e ≠ .none ∧ Emitted e s t) ∧ (s.st ≠ .awaitingEnd → Silent s t)

/-- R24: no event carries `UNDEF`, from any state of the invariant. -/
def Obligations.NoEventCarriesUndef : Prop :=
  ∀ (s t : State) (p : List CellVal), BlockInv s → step s = .next t → t.evt = .success p →
    ∃ bytes : List Byte, bytes.length = 10 ∧ p = bytes.map some

/-! ## Whole-machine rules -/

/-- R34, R91: only the parser's actions and `RESET_CFG` write `STATE`, `CURSOR` and `BUF`; and a parser action writes
neither `OVR`, `RUN`, `CFGERR`, `CHANNEL`, `ENPIN`, `AVAILPINS` nor `EN_N`. -/
def Obligations.ParserStateIsOwned : Prop :=
  ∀ (i : Instr) (s t : State), exec i s = .next t →
    (i.format = .port → i.op ≠ .resetCfg → SameParser s t)
    ∧ (i.format = .key → SameConfig s t ∧ t.ovr = s.ovr)

/-- R134: the marks of a run. A recorded fault is cleared by `RESET_CFG` alone; a refusal mark is never cleared. -/
def Obligations.RecordsPersist : Prop :=
  (∀ (i : Instr) (s t : State), exec i s = .next t → i.op ≠ .resetCfg → s.fault ≠ none → t.fault = s.fault)
  ∧ ∀ s t : State, step s = .next t →
      (s.refusedOp = true → t.refusedOp = true) ∧ (s.refusedPort = true → t.refusedPort = true)
      ∧ (t.fault ≠ s.fault → t.fault = some .illegalState ∨ (∃ ch pin rest, s.stim = .port 0x300#11 ⟨ch, pin⟩ :: rest))

/-- R99: the action a 0x0A byte selects inside a frame stores it as payload, and in `AwaitingEnd` takes it as a wrong
terminal byte. -/
def Obligations.StartByteInsideFrame : Prop :=
  ∀ (s : State) (rest : List Byte), s.run = true → s.fifo = 0x0A#8 :: rest →
    (s.st = .awaitingData → s.cursor.toNat ≤ 9 →
      ∃ t, exec (decodeKey (s.keyFor 0x0A#8)) s = .next t ∧ t.buf.read s.cursor.toNat = some 0x0A#8
        ∧ t.cursor.toNat = s.cursor.toNat + 1 ∧ t.fifo = rest ∧ Silent s t
        ∧ t.st = (if s.cursor = 9#4 then .awaitingEnd else .awaitingData))
    ∧ (s.st = .awaitingEnd →
        ∃ t, exec (decodeKey (s.keyFor 0x0A#8)) s = .next t ∧ Emitted .failure s t ∧ t.st = .awaitingStart
          ∧ t.fifo = rest)

/-- R100: with no byte and no turn pending the block stays as it is for any number of steps: every element, the fault
record and both refusal marks. That no turn is pending, so that no other agent acts, is the model's form of it (log 4). -/
def Obligations.ParkedIndefinitely : Prop :=
  ∀ (n : Nat) (s : State), s.fifo = [] → s.stim = [] →
    ∃ t , steps n s = .next t ∧ t.st = s.st ∧ t.cursor = s.cursor ∧ t.buf = s.buf
      ∧ t.fifo = [] ∧ t.ovr = s.ovr ∧ t.stim = [] ∧ t.events = s.events ∧ SameConfig s t ∧ SameRecords s t

/-! ## Frames -/

/-- R104: the bytes `0A p0 ... p9 e`, consumed from `AwaitingStart`, emit exactly one event, on the last byte:
`Success(p0 ... p9)` if `e` is `0D`, else `Failure`; the block ends in `AwaitingStart`. Any bytes may follow. That with
no turn pending every step is the parser's is the MODEL's choice (log 4). -/
def Obligations.FrameEmitsItsEvent : Prop :=
  ∀ (s : State) (p : List Byte) (e : Byte) (rest : List Byte),
    s.run = true → s.st = .awaitingStart → s.stim = [] → p.length = 10 → s.fifo = 0x0A#8 :: (p ++ e :: rest) →
    (∃ u , steps 11 s = .next u ∧ u.events = s.events ∧ u.st = .awaitingEnd)
    ∧ ∃ t , steps 12 s = .next t
      ∧ Emitted (if e = 0x0D#8 then .success (p.map some) else .failure) s t
      ∧ t.st = .awaitingStart ∧ t.fifo = rest ∧ t.ovr = s.ovr ∧ t.stim = [] ∧ SameConfig s t ∧ SameRecords s t

/-- R104 through the port: the stimulus `FEED 0A p0 ... p9 e` (R75, R76) on an empty FIFO, every byte pushed and
then consumed in one parser turn each. The list of turns is the MODEL's choice (log 4). -/
def Obligations.FeedFrameEmitsItsEvent : Prop :=
  ∀ (s : State) (p : List Byte) (e : Byte) (rest : List Turn),
    s.run = true → s.st = .awaitingStart → s.fifo = [] → 1 ≤ s.params.fifoDepth → p.length = 10 →
    s.stim = stimFeed (0x0A#8 :: p ++ [e]) ++ rest →
    ∃ t , steps 24 s = .next t
      ∧ Emitted (if e = 0x0D#8 then .success (p.map some) else .failure) s t
      ∧ t.st = .awaitingStart ∧ t.fifo = [] ∧ t.ovr = s.ovr ∧ t.stim = rest ∧ SameConfig s t ∧ SameRecords s t

/-- R104, R93: any number of bytes none of which is `0A`, consumed in `AwaitingStart`, emit nothing and change nothing
but the FIFO. That with no turn pending every step is the parser's is the MODEL's choice (log 4). -/
def Obligations.NoiseStreamIsSilent : Prop :=
  ∀ (s : State) (noise rest : List Byte),
    s.run = true → s.st = .awaitingStart → s.stim = [] → (∀ b ∈ noise, b ≠ 0x0A#8) → s.fifo = noise ++ rest →
    ∃ t , steps noise.length s = .next t
      ∧ t.events = s.events ∧ SameParser s t ∧ t.fifo = rest ∧ t.ovr = s.ovr ∧ t.stim = []
      ∧ SameConfig s t ∧ SameRecords s t

/-- R154: a frame that lost a payload byte takes the next frame's start byte as its terminal byte: one `Failure`, and
the next frame's bytes are noise if none is `0A`. That with no turn pending every step is the parser's is the MODEL's
choice (log 4). -/
def Obligations.LostByteCostsOneFailure : Prop :=
  ∀ (s : State) (p q rest : List Byte),
    s.run = true → s.st = .awaitingStart → s.stim = [] → p.length = 9 → q.length = 10 → (∀ b ∈ q, b ≠ 0x0A#8) →
    s.fifo = 0x0A#8 :: (p ++ 0x0D#8 :: 0x0A#8 :: (q ++ 0x0D#8 :: rest)) →
    ∃ t , steps 23 s = .next t
      ∧ t.events = s.events ++ [.failure] ∧ t.st = .awaitingStart ∧ t.fifo = rest ∧ t.stim = []

/-- R160, R161: with no turn pending, a running block in a state of the invariant consumes every byte in `COUNT` steps
and then its run has ended, still in a state of the invariant. That with no turn pending every step is the parser's is
the MODEL's choice (log 4). -/
def Obligations.ParserDrainsTheFifo : Prop :=
  ∀ s : State, BlockInv s → s.run = true → s.stim = [] →
    ∃ t , steps s.count s = .next t ∧ t.fifo = [] ∧ t.stim = [] ∧ t.selected = none ∧ BlockInv t
end

