-- ==== Sys2Proof/Laws/Decode.lean ====
section
/-! SUPPORT. The small lemmas of the encodings: state codes, the three fields of a key, and the action of a key given
by its fields. -/

namespace Sys2Proof

@[simp] theorem ParserState.ofCode_code (s : ParserState) : ParserState.ofCode s.code = s := by
  cases s <;> rfl

@[simp] theorem ParserState.code_ofCode (c : BitVec 2) : (ParserState.ofCode c).code = c := by
  revert c; decide

@[simp] theorem keyState_keyWord (st : ParserState) (last : Bool) (b : Byte) : keyState (keyWord st last b) = st := by
  have h : (keyWord st last b).extractLsb' 9 2 = st.code := by
    ext i hi
    simp only [keyWord, BitVec.getElem_extractLsb', BitVec.getLsbD_append]
    have h1 : ¬ 9 + i < 8 := by omega
    have h2 : ¬ 9 + i - 8 < 1 := by omega
    have h3 : 9 + i - 8 - 1 = i := by omega
    simp only [h1, h2, h3, if_false]
    exact BitVec.getLsbD_eq_getElem hi
  rw [keyState, h, ParserState.ofCode_code]

@[simp] theorem keyLast_keyWord (st : ParserState) (last : Bool) (b : Byte) : keyLast (keyWord st last b) = last := by
  simp only [keyLast, keyWord, BitVec.getLsbD_append]
  cases last <;> rfl

@[simp] theorem keyByte_keyWord (st : ParserState) (last : Bool) (b : Byte) : keyByte (keyWord st last b) = b := by
  ext i hi
  simp only [keyByte, keyWord, BitVec.getElem_extractLsb', BitVec.getLsbD_append, Nat.zero_add, if_pos hi]
  exact BitVec.getLsbD_eq_getElem hi

/-- A key is its three fields: no bit is lost. -/
theorem keyWord_fields (k : OpWord) : keyWord (keyState k) (keyLast k) (keyByte k) = k := by
  ext i hi
  simp only [keyWord, keyState, keyLast, keyByte, ParserState.code_ofCode, ← BitVec.getLsbD_eq_getElem,
    BitVec.getLsbD_append, BitVec.getLsbD_extractLsb', BitVec.getLsbD_ofBool]
  by_cases h8 : i < 8
  · simp [h8]
  · by_cases h9 : i = 8
    · subst h9; simp
    · have h1 : ¬ i - 8 < 1 := by omega
      have h2 : i - 8 - 1 < 2 := by omega
      have h3 : 9 + (i - 8 - 1) = i := by omega
      simp [h8, h1, h2, h3]

/-! ## The action of a key, by state -/

theorem decodeKey_awaitingStart (last : Bool) (b : Byte) :
    decodeKey (keyWord .awaitingStart last b)
      = if b = Config.startByte then .startDetect last else .noiseDiscard last b := by
  simp [decodeKey]

theorem decodeKey_awaitingData (last : Bool) (b : Byte) :
    decodeKey (keyWord .awaitingData last b) = if last then .dataStoreLast b else .dataStore b := by
  simp [decodeKey]

theorem decodeKey_awaitingEnd (last : Bool) (b : Byte) :
    decodeKey (keyWord .awaitingEnd last b) = if b = Config.endByte then .endOk last else .endFail last b := by
  simp [decodeKey]

theorem decodeKey_reserved (last : Bool) (b : Byte) :
    decodeKey (keyWord .reserved last b) = .illegalState last b := by
  simp [decodeKey]

end Sys2Proof
end

