-- ==== Sys2Proof/Laws/Memory.lean ====
section
/-! SUPPORT. The laws of the frame buffer as memory: read after write, the canonical form kept by every operation, and
canonical buffers equal when they read the same. -/

namespace Sys2Proof.Machine

@[simp] theorem Memory.read_nil (i : Nat) : Memory.read [] i = none := rfl

theorem Memory.read_write_same (m : Memory) (i : Nat) (v : Byte) : (m.write i v).read i = some v := by
  induction m with
  | nil => simp [Memory.write, Memory.read]
  | cons c m ih =>
    obtain ⟨a, b⟩ := c
    by_cases h1 : i < a
    · simp [Memory.write, h1, Memory.read]
    · by_cases h2 : i = a
      · simp [Memory.write, h2, Memory.read]
      · simp [Memory.write, h1, h2, Memory.read, Ne.symm h2, ih]

theorem Memory.read_write_other (m : Memory) {i j : Nat} (v : Byte) (h : j ≠ i) :
    (m.write i v).read j = m.read j := by
  induction m with
  | nil => simp [Memory.write, Memory.read, Ne.symm h]
  | cons c m ih =>
    obtain ⟨a, b⟩ := c
    by_cases h1 : i < a
    · simp [Memory.write, h1, Memory.read, Ne.symm h]
    · by_cases h2 : i = a
      · subst h2; simp [Memory.write, Memory.read, Ne.symm h]
      · simp [Memory.write, h1, h2, Memory.read, ih]

/-- A read after a write, at any index. -/
theorem Memory.read_write (m : Memory) (i j : Nat) (v : Byte) :
    (m.write i v).read j = if j = i then some v else m.read j := by
  by_cases h : j = i
  · subst h; simp [Memory.read_write_same]
  · simp [h, Memory.read_write_other m v h]

/-! ## The canonical form -/

theorem Memory.wfFrom_cons (lo a : Nat) (b : Byte) (m : Memory) :
    Memory.wfFrom lo ((a, b) :: m) = true ↔ lo ≤ a ∧ a < 10 ∧ Memory.wfFrom (a + 1) m = true := by
  change (decide (lo ≤ a) && decide (a < 10) && Memory.wfFrom (a + 1) m) = true ↔ _
  simp [and_assoc]

theorem Memory.wfFrom_write (m : Memory) {lo i : Nat} (v : Byte) (hm : Memory.wfFrom lo m = true) (hlo : lo ≤ i)
    (hi : i < 10) : Memory.wfFrom lo (m.write i v) = true := by
  induction m generalizing lo with
  | nil => exact (Memory.wfFrom_cons _ _ _ _).mpr ⟨hlo, hi, rfl⟩
  | cons c m ih =>
    obtain ⟨a, b⟩ := c
    rw [Memory.wfFrom_cons] at hm
    obtain ⟨hla, ha, hm⟩ := hm
    by_cases h1 : i < a
    · simp only [Memory.write, if_pos h1, Memory.wfFrom_cons]
      exact ⟨hlo, hi, h1, ha, hm⟩
    · by_cases h2 : i = a
      · simp only [Memory.write, if_neg h1, if_pos h2, Memory.wfFrom_cons]
        exact ⟨hlo, hi, h2 ▸ hm⟩
      · simp only [Memory.write, if_neg h1, if_neg h2, Memory.wfFrom_cons]
        exact ⟨hla, ha, ih hm (by omega)⟩

/-- A write inside the ten cells keeps the canonical form. -/
theorem Memory.wf_write (m : Memory) {i : Nat} (v : Byte) (hm : m.wf = true) (hi : i < 10) :
    (m.write i v).wf = true :=
  Memory.wfFrom_write m v hm (Nat.zero_le _) hi

@[simp] theorem Memory.wf_zeroed : Memory.zeroed.wf = true := by decide

@[simp] theorem Memory.wf_nil : Memory.wf [] = true := rfl

/-- The buffer at power-on has the canonical form. -/
theorem State.reset_buf_wf : State.reset.buf.wf = true := rfl

theorem Memory.read_of_lt_wfFrom (m : Memory) {lo i : Nat} (hm : Memory.wfFrom lo m = true) (hi : i < lo) :
    m.read i = none := by
  induction m generalizing lo with
  | nil => rfl
  | cons c m ih =>
    obtain ⟨a, b⟩ := c
    rw [Memory.wfFrom_cons] at hm
    have h : a ≠ i := by omega
    simp [Memory.read, h, ih hm.2.2 (by omega)]

theorem Memory.read_of_ge (m : Memory) {lo i : Nat} (hm : Memory.wfFrom lo m = true) (hi : 10 ≤ i) :
    m.read i = none := by
  induction m generalizing lo with
  | nil => rfl
  | cons c m ih =>
    obtain ⟨a, b⟩ := c
    rw [Memory.wfFrom_cons] at hm
    have h : a ≠ i := by omega
    simp [Memory.read, h, ih hm.2.2]

theorem Memory.eq_of_read_wfFrom (m n : Memory) {lo : Nat} (hm : Memory.wfFrom lo m = true)
    (hn : Memory.wfFrom lo n = true) (h : ∀ i, m.read i = n.read i) : m = n := by
  induction m generalizing n lo with
  | nil =>
    cases n with
    | nil => rfl
    | cons d n =>
      obtain ⟨a', b'⟩ := d
      have := h a'
      simp [Memory.read] at this
  | cons c m ih =>
    obtain ⟨a, b⟩ := c
    cases n with
    | nil => have := h a; simp [Memory.read] at this
    | cons d n =>
      obtain ⟨a', b'⟩ := d
      rw [Memory.wfFrom_cons] at hm hn
      have haa : a = a' := by
        rcases Nat.lt_trichotomy a a' with hlt | heq | hgt
        · have hn' : Memory.read n a = none := Memory.read_of_lt_wfFrom n hn.2.2 (by omega)
          have := h a
          simp [Memory.read, Nat.ne_of_gt hlt, hn'] at this
        · exact heq
        · have hm' : Memory.read m a' = none := Memory.read_of_lt_wfFrom m hm.2.2 (by omega)
          have := h a'
          simp [Memory.read, Nat.ne_of_gt hgt, hm'] at this
      subst haa
      have hb : b = b' := by have := h a; simpa [Memory.read] using this
      subst hb
      have htail : m = n := by
        refine ih n hm.2.2 hn.2.2 fun i => ?_
        by_cases hi : a = i
        · subst hi
          rw [Memory.read_of_lt_wfFrom m hm.2.2 (Nat.lt_succ_self _),
            Memory.read_of_lt_wfFrom n hn.2.2 (Nat.lt_succ_self _)]
        · simpa [Memory.read, hi] using h i
      rw [htail]

/-- Two canonical buffers that read the same are the same data. -/
theorem Memory.eq_of_read (m n : Memory) (hm : m.wf = true) (hn : n.wf = true) (h : ∀ i, m.read i = n.read i) :
    m = n :=
  Memory.eq_of_read_wfFrom m n hm hn h

/-! ## The cleared buffer and the whole read -/

theorem Memory.read_zeroed {i : Nat} (h : i < 10) : Memory.zeroed.read i = some 0#8 := by
  revert i; decide

@[simp] theorem Memory.length_cells (m : Memory) : m.cells.length = 10 := by simp [Memory.cells, Config.payloadLen]

@[simp] theorem Memory.getElem_cells (m : Memory) (i : Nat) (h : i < m.cells.length) : m.cells[i] = m.read i := by
  simp [Memory.cells]

end Sys2Proof.Machine
end

