-- ==== Sys2Proof/Laws/State.lean ====
section
/-! SUPPORT. One lemma per field and update of State, so that no later proof unfolds a record update; and the same for
the FIFO push, which branches. -/

namespace Sys2Proof.Machine

/-! ## `State.quiet` -/

section

variable (s : State)

@[simp] theorem State.quiet_params : s.quiet.params = s.params := rfl
@[simp] theorem State.quiet_run : s.quiet.run = s.run := rfl
@[simp] theorem State.quiet_cfgErr : s.quiet.cfgErr = s.cfgErr := rfl
@[simp] theorem State.quiet_channel : s.quiet.channel = s.channel := rfl
@[simp] theorem State.quiet_enPin : s.quiet.enPin = s.enPin := rfl
@[simp] theorem State.quiet_availPins : s.quiet.availPins = s.availPins := rfl
@[simp] theorem State.quiet_enN : s.quiet.enN = s.enN := rfl
@[simp] theorem State.quiet_st : s.quiet.st = s.st := rfl
@[simp] theorem State.quiet_cursor : s.quiet.cursor = s.cursor := rfl
@[simp] theorem State.quiet_buf : s.quiet.buf = s.buf := rfl
@[simp] theorem State.quiet_fifo : s.quiet.fifo = s.fifo := rfl
@[simp] theorem State.quiet_ovr : s.quiet.ovr = s.ovr := rfl
@[simp] theorem State.quiet_fault : s.quiet.fault = s.fault := rfl
@[simp] theorem State.quiet_refusedOp : s.quiet.refusedOp = s.refusedOp := rfl
@[simp] theorem State.quiet_refusedPort : s.quiet.refusedPort = s.refusedPort := rfl
@[simp] theorem State.quiet_evt : s.quiet.evt = .none := rfl
@[simp] theorem State.quiet_ret : s.quiet.ret = .none := rfl
@[simp] theorem State.quiet_events : s.quiet.events = s.events := rfl
@[simp] theorem State.quiet_stim : s.quiet.stim = s.stim := rfl

end

/-! ## `State.emit` -/

section

variable (s : State) (e : Evt)

@[simp] theorem State.emit_params : (s.emit e).params = s.params := rfl
@[simp] theorem State.emit_run : (s.emit e).run = s.run := rfl
@[simp] theorem State.emit_cfgErr : (s.emit e).cfgErr = s.cfgErr := rfl
@[simp] theorem State.emit_channel : (s.emit e).channel = s.channel := rfl
@[simp] theorem State.emit_enPin : (s.emit e).enPin = s.enPin := rfl
@[simp] theorem State.emit_availPins : (s.emit e).availPins = s.availPins := rfl
@[simp] theorem State.emit_enN : (s.emit e).enN = s.enN := rfl
@[simp] theorem State.emit_st : (s.emit e).st = s.st := rfl
@[simp] theorem State.emit_cursor : (s.emit e).cursor = s.cursor := rfl
@[simp] theorem State.emit_buf : (s.emit e).buf = s.buf := rfl
@[simp] theorem State.emit_fifo : (s.emit e).fifo = s.fifo := rfl
@[simp] theorem State.emit_ovr : (s.emit e).ovr = s.ovr := rfl
@[simp] theorem State.emit_fault : (s.emit e).fault = s.fault := rfl
@[simp] theorem State.emit_refusedOp : (s.emit e).refusedOp = s.refusedOp := rfl
@[simp] theorem State.emit_refusedPort : (s.emit e).refusedPort = s.refusedPort := rfl
@[simp] theorem State.emit_evt : (s.emit e).evt = e := rfl
@[simp] theorem State.emit_ret : (s.emit e).ret = s.ret := rfl
@[simp] theorem State.emit_events : (s.emit e).events = s.events ++ [e] := rfl
@[simp] theorem State.emit_stim : (s.emit e).stim = s.stim := rfl

end

/-! ## `State.returning` -/

section

variable (s : State) (r : Ret)

@[simp] theorem State.returning_params : (s.returning r).params = s.params := rfl
@[simp] theorem State.returning_run : (s.returning r).run = s.run := rfl
@[simp] theorem State.returning_cfgErr : (s.returning r).cfgErr = s.cfgErr := rfl
@[simp] theorem State.returning_channel : (s.returning r).channel = s.channel := rfl
@[simp] theorem State.returning_enPin : (s.returning r).enPin = s.enPin := rfl
@[simp] theorem State.returning_availPins : (s.returning r).availPins = s.availPins := rfl
@[simp] theorem State.returning_enN : (s.returning r).enN = s.enN := rfl
@[simp] theorem State.returning_st : (s.returning r).st = s.st := rfl
@[simp] theorem State.returning_cursor : (s.returning r).cursor = s.cursor := rfl
@[simp] theorem State.returning_buf : (s.returning r).buf = s.buf := rfl
@[simp] theorem State.returning_fifo : (s.returning r).fifo = s.fifo := rfl
@[simp] theorem State.returning_ovr : (s.returning r).ovr = s.ovr := rfl
@[simp] theorem State.returning_fault : (s.returning r).fault = s.fault := rfl
@[simp] theorem State.returning_refusedOp : (s.returning r).refusedOp = s.refusedOp := rfl
@[simp] theorem State.returning_refusedPort : (s.returning r).refusedPort = s.refusedPort := rfl
@[simp] theorem State.returning_evt : (s.returning r).evt = s.evt := rfl
@[simp] theorem State.returning_ret : (s.returning r).ret = r := rfl
@[simp] theorem State.returning_events : (s.returning r).events = s.events := rfl
@[simp] theorem State.returning_stim : (s.returning r).stim = s.stim := rfl

end

/-! ## `State.recordFault` -/

section

variable (s : State) (f : Fault)

@[simp] theorem State.recordFault_params : (s.recordFault f).params = s.params := rfl
@[simp] theorem State.recordFault_run : (s.recordFault f).run = s.run := rfl
@[simp] theorem State.recordFault_cfgErr : (s.recordFault f).cfgErr = s.cfgErr := rfl
@[simp] theorem State.recordFault_channel : (s.recordFault f).channel = s.channel := rfl
@[simp] theorem State.recordFault_enPin : (s.recordFault f).enPin = s.enPin := rfl
@[simp] theorem State.recordFault_availPins : (s.recordFault f).availPins = s.availPins := rfl
@[simp] theorem State.recordFault_enN : (s.recordFault f).enN = s.enN := rfl
@[simp] theorem State.recordFault_st : (s.recordFault f).st = s.st := rfl
@[simp] theorem State.recordFault_cursor : (s.recordFault f).cursor = s.cursor := rfl
@[simp] theorem State.recordFault_buf : (s.recordFault f).buf = s.buf := rfl
@[simp] theorem State.recordFault_fifo : (s.recordFault f).fifo = s.fifo := rfl
@[simp] theorem State.recordFault_ovr : (s.recordFault f).ovr = s.ovr := rfl
@[simp] theorem State.recordFault_fault : (s.recordFault f).fault = some f := rfl
@[simp] theorem State.recordFault_refusedOp : (s.recordFault f).refusedOp = s.refusedOp := rfl
@[simp] theorem State.recordFault_refusedPort : (s.recordFault f).refusedPort = s.refusedPort := rfl
@[simp] theorem State.recordFault_evt : (s.recordFault f).evt = s.evt := rfl
@[simp] theorem State.recordFault_ret : (s.recordFault f).ret = s.ret := rfl
@[simp] theorem State.recordFault_events : (s.recordFault f).events = s.events := rfl
@[simp] theorem State.recordFault_stim : (s.recordFault f).stim = s.stim := rfl

end

/-! ## `State.refuseOp` -/

section

variable (s : State)

@[simp] theorem State.refuseOp_params : s.refuseOp.params = s.params := rfl
@[simp] theorem State.refuseOp_run : s.refuseOp.run = s.run := rfl
@[simp] theorem State.refuseOp_cfgErr : s.refuseOp.cfgErr = s.cfgErr := rfl
@[simp] theorem State.refuseOp_channel : s.refuseOp.channel = s.channel := rfl
@[simp] theorem State.refuseOp_enPin : s.refuseOp.enPin = s.enPin := rfl
@[simp] theorem State.refuseOp_availPins : s.refuseOp.availPins = s.availPins := rfl
@[simp] theorem State.refuseOp_enN : s.refuseOp.enN = s.enN := rfl
@[simp] theorem State.refuseOp_st : s.refuseOp.st = s.st := rfl
@[simp] theorem State.refuseOp_cursor : s.refuseOp.cursor = s.cursor := rfl
@[simp] theorem State.refuseOp_buf : s.refuseOp.buf = s.buf := rfl
@[simp] theorem State.refuseOp_fifo : s.refuseOp.fifo = s.fifo := rfl
@[simp] theorem State.refuseOp_ovr : s.refuseOp.ovr = s.ovr := rfl
@[simp] theorem State.refuseOp_fault : s.refuseOp.fault = s.fault := rfl
@[simp] theorem State.refuseOp_refusedOp : s.refuseOp.refusedOp = true := rfl
@[simp] theorem State.refuseOp_refusedPort : s.refuseOp.refusedPort = s.refusedPort := rfl
@[simp] theorem State.refuseOp_evt : s.refuseOp.evt = s.evt := rfl
@[simp] theorem State.refuseOp_ret : s.refuseOp.ret = .refused .reservedOp := rfl
@[simp] theorem State.refuseOp_events : s.refuseOp.events = s.events := rfl
@[simp] theorem State.refuseOp_stim : s.refuseOp.stim = s.stim := rfl

end

/-! ## `State.refusePort` -/

section

variable (s : State)

@[simp] theorem State.refusePort_params : s.refusePort.params = s.params := rfl
@[simp] theorem State.refusePort_run : s.refusePort.run = s.run := rfl
@[simp] theorem State.refusePort_cfgErr : s.refusePort.cfgErr = s.cfgErr := rfl
@[simp] theorem State.refusePort_channel : s.refusePort.channel = s.channel := rfl
@[simp] theorem State.refusePort_enPin : s.refusePort.enPin = s.enPin := rfl
@[simp] theorem State.refusePort_availPins : s.refusePort.availPins = s.availPins := rfl
@[simp] theorem State.refusePort_enN : s.refusePort.enN = s.enN := rfl
@[simp] theorem State.refusePort_st : s.refusePort.st = s.st := rfl
@[simp] theorem State.refusePort_cursor : s.refusePort.cursor = s.cursor := rfl
@[simp] theorem State.refusePort_buf : s.refusePort.buf = s.buf := rfl
@[simp] theorem State.refusePort_fifo : s.refusePort.fifo = s.fifo := rfl
@[simp] theorem State.refusePort_ovr : s.refusePort.ovr = s.ovr := rfl
@[simp] theorem State.refusePort_fault : s.refusePort.fault = s.fault := rfl
@[simp] theorem State.refusePort_refusedOp : s.refusePort.refusedOp = s.refusedOp := rfl
@[simp] theorem State.refusePort_refusedPort : s.refusePort.refusedPort = true := rfl
@[simp] theorem State.refusePort_evt : s.refusePort.evt = s.evt := rfl
@[simp] theorem State.refusePort_ret : s.refusePort.ret = .refused .reservedPort := rfl
@[simp] theorem State.refusePort_events : s.refusePort.events = s.events := rfl
@[simp] theorem State.refusePort_stim : s.refusePort.stim = s.stim := rfl

end

/-! ## `State.popFifo` -/

section

variable (s : State)

@[simp] theorem State.popFifo_params : s.popFifo.params = s.params := rfl
@[simp] theorem State.popFifo_run : s.popFifo.run = s.run := rfl
@[simp] theorem State.popFifo_cfgErr : s.popFifo.cfgErr = s.cfgErr := rfl
@[simp] theorem State.popFifo_channel : s.popFifo.channel = s.channel := rfl
@[simp] theorem State.popFifo_enPin : s.popFifo.enPin = s.enPin := rfl
@[simp] theorem State.popFifo_availPins : s.popFifo.availPins = s.availPins := rfl
@[simp] theorem State.popFifo_enN : s.popFifo.enN = s.enN := rfl
@[simp] theorem State.popFifo_st : s.popFifo.st = s.st := rfl
@[simp] theorem State.popFifo_cursor : s.popFifo.cursor = s.cursor := rfl
@[simp] theorem State.popFifo_buf : s.popFifo.buf = s.buf := rfl
@[simp] theorem State.popFifo_fifo : s.popFifo.fifo = s.fifo.tail := rfl
@[simp] theorem State.popFifo_ovr : s.popFifo.ovr = s.ovr := rfl
@[simp] theorem State.popFifo_fault : s.popFifo.fault = s.fault := rfl
@[simp] theorem State.popFifo_refusedOp : s.popFifo.refusedOp = s.refusedOp := rfl
@[simp] theorem State.popFifo_refusedPort : s.popFifo.refusedPort = s.refusedPort := rfl
@[simp] theorem State.popFifo_evt : s.popFifo.evt = s.evt := rfl
@[simp] theorem State.popFifo_ret : s.popFifo.ret = s.ret := rfl
@[simp] theorem State.popFifo_events : s.popFifo.events = s.events := rfl
@[simp] theorem State.popFifo_stim : s.popFifo.stim = s.stim := rfl

end

/-! ## `State.startFrame` -/

section

variable (s : State)

@[simp] theorem State.startFrame_params : s.startFrame.params = s.params := rfl
@[simp] theorem State.startFrame_run : s.startFrame.run = s.run := rfl
@[simp] theorem State.startFrame_cfgErr : s.startFrame.cfgErr = s.cfgErr := rfl
@[simp] theorem State.startFrame_channel : s.startFrame.channel = s.channel := rfl
@[simp] theorem State.startFrame_enPin : s.startFrame.enPin = s.enPin := rfl
@[simp] theorem State.startFrame_availPins : s.startFrame.availPins = s.availPins := rfl
@[simp] theorem State.startFrame_enN : s.startFrame.enN = s.enN := rfl
@[simp] theorem State.startFrame_st : s.startFrame.st = .awaitingData := rfl
@[simp] theorem State.startFrame_cursor : s.startFrame.cursor = 0 := rfl
@[simp] theorem State.startFrame_buf : s.startFrame.buf = Memory.zeroed := rfl
@[simp] theorem State.startFrame_fifo : s.startFrame.fifo = s.fifo := rfl
@[simp] theorem State.startFrame_ovr : s.startFrame.ovr = s.ovr := rfl
@[simp] theorem State.startFrame_fault : s.startFrame.fault = s.fault := rfl
@[simp] theorem State.startFrame_refusedOp : s.startFrame.refusedOp = s.refusedOp := rfl
@[simp] theorem State.startFrame_refusedPort : s.startFrame.refusedPort = s.refusedPort := rfl
@[simp] theorem State.startFrame_evt : s.startFrame.evt = s.evt := rfl
@[simp] theorem State.startFrame_ret : s.startFrame.ret = s.ret := rfl
@[simp] theorem State.startFrame_events : s.startFrame.events = s.events := rfl
@[simp] theorem State.startFrame_stim : s.startFrame.stim = s.stim := rfl

end

/-! ## `State.storeByte` -/

section

variable (s : State) (b : Byte)

@[simp] theorem State.storeByte_params : (s.storeByte b).params = s.params := rfl
@[simp] theorem State.storeByte_run : (s.storeByte b).run = s.run := rfl
@[simp] theorem State.storeByte_cfgErr : (s.storeByte b).cfgErr = s.cfgErr := rfl
@[simp] theorem State.storeByte_channel : (s.storeByte b).channel = s.channel := rfl
@[simp] theorem State.storeByte_enPin : (s.storeByte b).enPin = s.enPin := rfl
@[simp] theorem State.storeByte_availPins : (s.storeByte b).availPins = s.availPins := rfl
@[simp] theorem State.storeByte_enN : (s.storeByte b).enN = s.enN := rfl
@[simp] theorem State.storeByte_st : (s.storeByte b).st = s.st := rfl
@[simp] theorem State.storeByte_cursor : (s.storeByte b).cursor = s.cursor + 1 := rfl
@[simp] theorem State.storeByte_buf : (s.storeByte b).buf = s.buf.write s.cursor.toNat b := rfl
@[simp] theorem State.storeByte_fifo : (s.storeByte b).fifo = s.fifo := rfl
@[simp] theorem State.storeByte_ovr : (s.storeByte b).ovr = s.ovr := rfl
@[simp] theorem State.storeByte_fault : (s.storeByte b).fault = s.fault := rfl
@[simp] theorem State.storeByte_refusedOp : (s.storeByte b).refusedOp = s.refusedOp := rfl
@[simp] theorem State.storeByte_refusedPort : (s.storeByte b).refusedPort = s.refusedPort := rfl
@[simp] theorem State.storeByte_evt : (s.storeByte b).evt = s.evt := rfl
@[simp] theorem State.storeByte_ret : (s.storeByte b).ret = s.ret := rfl
@[simp] theorem State.storeByte_events : (s.storeByte b).events = s.events := rfl
@[simp] theorem State.storeByte_stim : (s.storeByte b).stim = s.stim := rfl

end

/-! ## `State.storeLast` -/

section

variable (s : State) (b : Byte)

@[simp] theorem State.storeLast_params : (s.storeLast b).params = s.params := rfl
@[simp] theorem State.storeLast_run : (s.storeLast b).run = s.run := rfl
@[simp] theorem State.storeLast_cfgErr : (s.storeLast b).cfgErr = s.cfgErr := rfl
@[simp] theorem State.storeLast_channel : (s.storeLast b).channel = s.channel := rfl
@[simp] theorem State.storeLast_enPin : (s.storeLast b).enPin = s.enPin := rfl
@[simp] theorem State.storeLast_availPins : (s.storeLast b).availPins = s.availPins := rfl
@[simp] theorem State.storeLast_enN : (s.storeLast b).enN = s.enN := rfl
@[simp] theorem State.storeLast_st : (s.storeLast b).st = .awaitingEnd := rfl
@[simp] theorem State.storeLast_cursor : (s.storeLast b).cursor = 10 := rfl
@[simp] theorem State.storeLast_buf : (s.storeLast b).buf = s.buf.write 9 b := rfl
@[simp] theorem State.storeLast_fifo : (s.storeLast b).fifo = s.fifo := rfl
@[simp] theorem State.storeLast_ovr : (s.storeLast b).ovr = s.ovr := rfl
@[simp] theorem State.storeLast_fault : (s.storeLast b).fault = s.fault := rfl
@[simp] theorem State.storeLast_refusedOp : (s.storeLast b).refusedOp = s.refusedOp := rfl
@[simp] theorem State.storeLast_refusedPort : (s.storeLast b).refusedPort = s.refusedPort := rfl
@[simp] theorem State.storeLast_evt : (s.storeLast b).evt = s.evt := rfl
@[simp] theorem State.storeLast_ret : (s.storeLast b).ret = s.ret := rfl
@[simp] theorem State.storeLast_events : (s.storeLast b).events = s.events := rfl
@[simp] theorem State.storeLast_stim : (s.storeLast b).stim = s.stim := rfl

end

/-! ## `State.endFrame` -/

section

variable (s : State)

@[simp] theorem State.endFrame_params : s.endFrame.params = s.params := rfl
@[simp] theorem State.endFrame_run : s.endFrame.run = s.run := rfl
@[simp] theorem State.endFrame_cfgErr : s.endFrame.cfgErr = s.cfgErr := rfl
@[simp] theorem State.endFrame_channel : s.endFrame.channel = s.channel := rfl
@[simp] theorem State.endFrame_enPin : s.endFrame.enPin = s.enPin := rfl
@[simp] theorem State.endFrame_availPins : s.endFrame.availPins = s.availPins := rfl
@[simp] theorem State.endFrame_enN : s.endFrame.enN = s.enN := rfl
@[simp] theorem State.endFrame_st : s.endFrame.st = .awaitingStart := rfl
@[simp] theorem State.endFrame_cursor : s.endFrame.cursor = s.cursor := rfl
@[simp] theorem State.endFrame_buf : s.endFrame.buf = s.buf := rfl
@[simp] theorem State.endFrame_fifo : s.endFrame.fifo = s.fifo := rfl
@[simp] theorem State.endFrame_ovr : s.endFrame.ovr = s.ovr := rfl
@[simp] theorem State.endFrame_fault : s.endFrame.fault = s.fault := rfl
@[simp] theorem State.endFrame_refusedOp : s.endFrame.refusedOp = s.refusedOp := rfl
@[simp] theorem State.endFrame_refusedPort : s.endFrame.refusedPort = s.refusedPort := rfl
@[simp] theorem State.endFrame_evt : s.endFrame.evt = s.evt := rfl
@[simp] theorem State.endFrame_ret : s.endFrame.ret = s.ret := rfl
@[simp] theorem State.endFrame_events : s.endFrame.events = s.events := rfl
@[simp] theorem State.endFrame_stim : s.endFrame.stim = s.stim := rfl

end

/-! ## `State.fresh` -/

section

variable (s : State)

@[simp] theorem State.fresh_params : s.fresh.params = s.params := rfl
@[simp] theorem State.fresh_run : s.fresh.run = s.run := rfl
@[simp] theorem State.fresh_cfgErr : s.fresh.cfgErr = s.cfgErr := rfl
@[simp] theorem State.fresh_channel : s.fresh.channel = s.channel := rfl
@[simp] theorem State.fresh_enPin : s.fresh.enPin = s.enPin := rfl
@[simp] theorem State.fresh_availPins : s.fresh.availPins = s.availPins := rfl
@[simp] theorem State.fresh_enN : s.fresh.enN = s.enN := rfl
@[simp] theorem State.fresh_st : s.fresh.st = .awaitingStart := rfl
@[simp] theorem State.fresh_cursor : s.fresh.cursor = 0 := rfl
@[simp] theorem State.fresh_buf : s.fresh.buf = [] := rfl
@[simp] theorem State.fresh_fifo : s.fresh.fifo = [] := rfl
@[simp] theorem State.fresh_ovr : s.fresh.ovr = false := rfl
@[simp] theorem State.fresh_fault : s.fresh.fault = none := rfl
@[simp] theorem State.fresh_refusedOp : s.fresh.refusedOp = s.refusedOp := rfl
@[simp] theorem State.fresh_refusedPort : s.fresh.refusedPort = s.refusedPort := rfl
@[simp] theorem State.fresh_evt : s.fresh.evt = s.evt := rfl
@[simp] theorem State.fresh_ret : s.fresh.ret = s.ret := rfl
@[simp] theorem State.fresh_events : s.fresh.events = s.events := rfl
@[simp] theorem State.fresh_stim : s.fresh.stim = s.stim := rfl

end

/-! ## `State.construct` -/

section

variable (s : State) (ch : Option ChannelId) (pin : PinId) (mask : Nat)

@[simp] theorem State.construct_params : (s.construct ch pin mask).params = s.params := rfl
@[simp] theorem State.construct_run : (s.construct ch pin mask).run = true := rfl
@[simp] theorem State.construct_cfgErr : (s.construct ch pin mask).cfgErr = 0 := rfl
@[simp] theorem State.construct_channel : (s.construct ch pin mask).channel = ch := rfl
@[simp] theorem State.construct_enPin : (s.construct ch pin mask).enPin = some pin := rfl
@[simp] theorem State.construct_availPins : (s.construct ch pin mask).availPins = mask := rfl
@[simp] theorem State.construct_enN : (s.construct ch pin mask).enN = .high := rfl
@[simp] theorem State.construct_st : (s.construct ch pin mask).st = s.st := rfl
@[simp] theorem State.construct_cursor : (s.construct ch pin mask).cursor = s.cursor := rfl
@[simp] theorem State.construct_buf : (s.construct ch pin mask).buf = s.buf := rfl
@[simp] theorem State.construct_fifo : (s.construct ch pin mask).fifo = s.fifo := rfl
@[simp] theorem State.construct_ovr : (s.construct ch pin mask).ovr = s.ovr := rfl
@[simp] theorem State.construct_fault : (s.construct ch pin mask).fault = s.fault := rfl
@[simp] theorem State.construct_refusedOp : (s.construct ch pin mask).refusedOp = s.refusedOp := rfl
@[simp] theorem State.construct_refusedPort : (s.construct ch pin mask).refusedPort = s.refusedPort := rfl
@[simp] theorem State.construct_evt : (s.construct ch pin mask).evt = s.evt := rfl
@[simp] theorem State.construct_ret : (s.construct ch pin mask).ret = s.ret := rfl
@[simp] theorem State.construct_events : (s.construct ch pin mask).events = s.events := rfl
@[simp] theorem State.construct_stim : (s.construct ch pin mask).stim = s.stim := rfl

end

/-! ## `State.raiseConfigError` -/

section

variable (s : State) (code : BitVec 3)

@[simp] theorem State.raiseConfigError_params : (s.raiseConfigError code).params = s.params := rfl
@[simp] theorem State.raiseConfigError_run : (s.raiseConfigError code).run = false := rfl
@[simp] theorem State.raiseConfigError_cfgErr : (s.raiseConfigError code).cfgErr = code := rfl
@[simp] theorem State.raiseConfigError_channel : (s.raiseConfigError code).channel = none := rfl
@[simp] theorem State.raiseConfigError_enPin : (s.raiseConfigError code).enPin = none := rfl
@[simp] theorem State.raiseConfigError_availPins : (s.raiseConfigError code).availPins = 0 := rfl
@[simp] theorem State.raiseConfigError_enN : (s.raiseConfigError code).enN = .z := rfl
@[simp] theorem State.raiseConfigError_st : (s.raiseConfigError code).st = s.st := rfl
@[simp] theorem State.raiseConfigError_cursor : (s.raiseConfigError code).cursor = s.cursor := rfl
@[simp] theorem State.raiseConfigError_buf : (s.raiseConfigError code).buf = s.buf := rfl
@[simp] theorem State.raiseConfigError_fifo : (s.raiseConfigError code).fifo = s.fifo := rfl
@[simp] theorem State.raiseConfigError_ovr : (s.raiseConfigError code).ovr = s.ovr := rfl
@[simp] theorem State.raiseConfigError_fault : (s.raiseConfigError code).fault = s.fault := rfl
@[simp] theorem State.raiseConfigError_refusedOp : (s.raiseConfigError code).refusedOp = s.refusedOp := rfl
@[simp] theorem State.raiseConfigError_refusedPort : (s.raiseConfigError code).refusedPort = s.refusedPort := rfl
@[simp] theorem State.raiseConfigError_evt : (s.raiseConfigError code).evt = s.evt := rfl
@[simp] theorem State.raiseConfigError_ret : (s.raiseConfigError code).ret = .configError code := rfl
@[simp] theorem State.raiseConfigError_events : (s.raiseConfigError code).events = s.events := rfl
@[simp] theorem State.raiseConfigError_stim : (s.raiseConfigError code).stim = s.stim := rfl

end

/-! ## `State.pushFifo` (R80, R81, R84) -/

section

variable (s : State) (b : Byte)

/-- Everything a push can do: ignored, appended, or dropped with `OVR` set. -/
theorem State.pushFifo_cases :
    (s.run = false ∧ s.pushFifo b = s)
    ∨ (s.run = true ∧ s.count < s.params.fifoDepth ∧ s.pushFifo b = { s with fifo := s.fifo ++ [b] })
    ∨ (s.run = true ∧ s.params.fifoDepth ≤ s.count ∧ s.pushFifo b = { s with ovr := true }) := by
  unfold State.pushFifo
  cases hr : s.run
  · simp
  · by_cases hc : s.count < s.params.fifoDepth
    · simp [hc]
    · simp [hc, Nat.le_of_not_lt hc]

@[simp] theorem State.pushFifo_params : (s.pushFifo b).params = s.params := by
  obtain ⟨-, h⟩ | ⟨-, -, h⟩ | ⟨-, -, h⟩ := s.pushFifo_cases b <;> rw [h]
@[simp] theorem State.pushFifo_run : (s.pushFifo b).run = s.run := by
  obtain ⟨-, h⟩ | ⟨-, -, h⟩ | ⟨-, -, h⟩ := s.pushFifo_cases b <;> rw [h]
@[simp] theorem State.pushFifo_cfgErr : (s.pushFifo b).cfgErr = s.cfgErr := by
  obtain ⟨-, h⟩ | ⟨-, -, h⟩ | ⟨-, -, h⟩ := s.pushFifo_cases b <;> rw [h]
@[simp] theorem State.pushFifo_channel : (s.pushFifo b).channel = s.channel := by
  obtain ⟨-, h⟩ | ⟨-, -, h⟩ | ⟨-, -, h⟩ := s.pushFifo_cases b <;> rw [h]
@[simp] theorem State.pushFifo_enPin : (s.pushFifo b).enPin = s.enPin := by
  obtain ⟨-, h⟩ | ⟨-, -, h⟩ | ⟨-, -, h⟩ := s.pushFifo_cases b <;> rw [h]
@[simp] theorem State.pushFifo_availPins : (s.pushFifo b).availPins = s.availPins := by
  obtain ⟨-, h⟩ | ⟨-, -, h⟩ | ⟨-, -, h⟩ := s.pushFifo_cases b <;> rw [h]
@[simp] theorem State.pushFifo_enN : (s.pushFifo b).enN = s.enN := by
  obtain ⟨-, h⟩ | ⟨-, -, h⟩ | ⟨-, -, h⟩ := s.pushFifo_cases b <;> rw [h]
@[simp] theorem State.pushFifo_st : (s.pushFifo b).st = s.st := by
  obtain ⟨-, h⟩ | ⟨-, -, h⟩ | ⟨-, -, h⟩ := s.pushFifo_cases b <;> rw [h]
@[simp] theorem State.pushFifo_cursor : (s.pushFifo b).cursor = s.cursor := by
  obtain ⟨-, h⟩ | ⟨-, -, h⟩ | ⟨-, -, h⟩ := s.pushFifo_cases b <;> rw [h]
@[simp] theorem State.pushFifo_buf : (s.pushFifo b).buf = s.buf := by
  obtain ⟨-, h⟩ | ⟨-, -, h⟩ | ⟨-, -, h⟩ := s.pushFifo_cases b <;> rw [h]
@[simp] theorem State.pushFifo_fault : (s.pushFifo b).fault = s.fault := by
  obtain ⟨-, h⟩ | ⟨-, -, h⟩ | ⟨-, -, h⟩ := s.pushFifo_cases b <;> rw [h]
@[simp] theorem State.pushFifo_refusedOp : (s.pushFifo b).refusedOp = s.refusedOp := by
  obtain ⟨-, h⟩ | ⟨-, -, h⟩ | ⟨-, -, h⟩ := s.pushFifo_cases b <;> rw [h]
@[simp] theorem State.pushFifo_refusedPort : (s.pushFifo b).refusedPort = s.refusedPort := by
  obtain ⟨-, h⟩ | ⟨-, -, h⟩ | ⟨-, -, h⟩ := s.pushFifo_cases b <;> rw [h]
@[simp] theorem State.pushFifo_evt : (s.pushFifo b).evt = s.evt := by
  obtain ⟨-, h⟩ | ⟨-, -, h⟩ | ⟨-, -, h⟩ := s.pushFifo_cases b <;> rw [h]
@[simp] theorem State.pushFifo_ret : (s.pushFifo b).ret = s.ret := by
  obtain ⟨-, h⟩ | ⟨-, -, h⟩ | ⟨-, -, h⟩ := s.pushFifo_cases b <;> rw [h]
@[simp] theorem State.pushFifo_events : (s.pushFifo b).events = s.events := by
  obtain ⟨-, h⟩ | ⟨-, -, h⟩ | ⟨-, -, h⟩ := s.pushFifo_cases b <;> rw [h]
@[simp] theorem State.pushFifo_stim : (s.pushFifo b).stim = s.stim := by
  obtain ⟨-, h⟩ | ⟨-, -, h⟩ | ⟨-, -, h⟩ := s.pushFifo_cases b <;> rw [h]

end

end Sys2Proof.Machine
end

