-- ==== Sys2Proof/Laws/Ops.lean ====
section
/-! SUPPORT. One spec lemma per shared operation: the parser's selection and its step, validation, the available-pin
mask, one equation per instruction, and what a step of the machine can be. -/

namespace Sys2Proof.Machine

/-! ## The parser's selection (R85, R90) -/

/-- The parser has a step exactly when it is enabled (R85). -/
theorem State.selected_isSome (s : State) : s.selected.isSome = s.enabled := by
  cases hr : s.run <;> cases hf : s.fifo <;> simp [State.selected, State.enabled, State.fifoNe, State.count, hr, hf]

theorem State.selected_eq_none_iff (s : State) : s.selected = none ↔ s.run = false ∨ s.fifo = [] := by
  cases hr : s.run <;> cases hf : s.fifo <;> simp [State.selected, hr, hf]

theorem State.selected_eq_some_iff (s : State) (i : Instr) :
    s.selected = some i ↔ s.run = true ∧ ∃ b rest, s.fifo = b :: rest ∧ decodeKey (s.keyFor b) = i := by
  cases hr : s.run <;> cases hf : s.fifo <;> simp [State.selected, hr, hf]

/-- The selected action, with the head byte named. -/
theorem State.selected_of_fifo (s : State) {b : Byte} {rest : List Byte} (hr : s.run = true) (hf : s.fifo = b :: rest) :
    s.selected = some (decodeKey (s.keyFor b)) := by
  simp [State.selected, hr, hf]

@[simp] theorem State.selected_withStim (s : State) (l : List Turn) :
    State.selected { s with stim := l } = s.selected := rfl

/-- Everything a parser step can do: its action, where the key selects it, or nothing. -/
theorem State.consume_cases (s : State) (i : Instr) (act : State → State) :
    (s.selected = some i ∧ s.consume i act = act s.quiet) ∨ (s.selected ≠ some i ∧ s.consume i act = s.quiet) := by
  by_cases h : s.selected = some i
  · exact .inl ⟨h, by simp [State.consume, h]⟩
  · exact .inr ⟨h, by simp [State.consume, h]⟩

/-! ## Validation and the mask (R111, R112) -/

/-- Validation answers 0 exactly for a supported channel and a listed pin that the channel does not reserve. -/
theorem validate_eq_zero_iff (p : Config.Params) (ch : Option ChannelId) (pin : PinId) :
    validate p ch pin = 0#3 ↔ ∃ c, ch = some c ∧ c ∈ p.channels ∧ pin ∉ reservedPins p c ∧ pin ∈ p.pins := by
  cases ch with
  | none => simp [validate]
  | some c =>
    by_cases h1 : c ∈ p.channels <;> by_cases h2 : pin ∈ reservedPins p c <;> by_cases h3 : pin ∈ p.pins <;>
      simp [validate, h1, h2, h3]

/-- No code above 4 is ever answered (R130). -/
theorem validate_le (p : Config.Params) (ch : Option ChannelId) (pin : PinId) :
    (validate p ch pin).toNat ≤ 4 := by
  cases ch with
  | none => simp [validate]
  | some c =>
    by_cases h1 : c ∈ p.channels <;> by_cases h2 : pin ∈ reservedPins p c <;> by_cases h3 : pin ∈ p.pins <;>
      simp [validate, h1, h2, h3]

theorem freeMask_lt (res : List PinId) (qs : List PinId) : freeMask res qs < 2 ^ qs.length := by
  induction qs with
  | nil => simp [freeMask]
  | cons q qs ih =>
    simp only [freeMask, List.length_cons, Nat.pow_succ]
    split <;> omega

/-! ## One equation per instruction -/

section

variable (s : State)

theorem exec_startDetect (last : Bool) :
    exec (.startDetect last) s = .next (s.consume (.startDetect last) fun t => t.popFifo.startFrame) := rfl

theorem exec_noiseDiscard (last : Bool) (b : Byte) :
    exec (.noiseDiscard last b) s = .next (s.consume (.noiseDiscard last b) fun t => t.popFifo) := rfl

theorem exec_dataStore (b : Byte) :
    exec (.dataStore b) s = .next (s.consume (.dataStore b) fun t =>
      if t.cursor.toNat < Config.payloadLen then t.popFifo.storeByte b else t.recordFault .illegalState) := rfl

theorem exec_dataStoreLast (b : Byte) :
    exec (.dataStoreLast b) s = .next (s.consume (.dataStoreLast b) fun t => t.popFifo.storeLast b) := rfl

theorem exec_endOk (last : Bool) :
    exec (.endOk last) s
      = .next (s.consume (.endOk last) fun t => (t.popFifo.emit (.success t.buf.cells)).endFrame) := rfl

theorem exec_endFail (last : Bool) (b : Byte) :
    exec (.endFail last b) s = .next (s.consume (.endFail last b) fun t => (t.popFifo.emit .failure).endFrame) := rfl

theorem exec_illegalState (last : Bool) (b : Byte) :
    exec (.illegalState last b) s
      = .next (s.consume (.illegalState last b) fun t => t.recordFault .illegalState) := rfl

theorem exec_push (b : Byte) : exec (.push b) s = .next (s.quiet.pushFifo b) := rfl

theorem exec_avail :
    exec .avail s = .next (s.quiet.returning (.count (countWidth s.params.fifoDepth) s.count)) := rfl

theorem exec_obsRead (n : BitVec 4) :
    exec (.obsRead n) s
      = .next (if n = 15#4 then s.quiet.refusePort else s.quiet.returning (.port (s.portValue n))) := rfl

theorem exec_resetCfg (ch : Option ChannelId) (pin : PinId) :
    exec (.resetCfg ch pin) s
      = .next (if validate s.params ch pin = 0#3 then s.quiet.fresh.construct ch pin (availMask s.params ch)
          else s.quiet.fresh.raiseConfigError (validate s.params ch pin)) := rfl

end

/-! ## What a step can be -/

/-- Everything a turn can come to: an operation, run at the state with only the schedule changed; or no operation, and
then the outputs are cleared and at most the mark `ReservedOp` is set. -/
theorem State.fetch_cases (s : State) :
    (∃ i l, s.fetch = .run i { s with stim := l }
      ∧ (s.selected = some i ∨ ∃ w side, decodePort w side = some i))
    ∨ (∃ l, s.fetch = .settled (State.quiet { s with stim := l }))
    ∨ (∃ l, s.fetch = .settled (State.quiet { s with stim := l }).refuseOp) := by
  have hturn : ∀ l, (∃ i, State.parserTurn { s with stim := l } = .run i { s with stim := l } ∧ s.selected = some i)
      ∨ State.parserTurn { s with stim := l } = .settled (State.quiet { s with stim := l }) := by
    intro l
    cases h : s.selected with
    | none => exact .inr (by simp [State.parserTurn, h])
    | some i => exact .inl ⟨i, by simp [State.parserTurn, h], rfl⟩
  have hself : { s with stim := s.stim } = s := rfl
  unfold State.fetch
  split
  · rename_i w side rest _
    cases h : decodePort w side with
    | none => exact .inr (.inr ⟨rest, by simp [State.portTurn, h]⟩)
    | some i => exact .inl ⟨i, rest, by simp [State.portTurn, h], .inr ⟨w, side, h⟩⟩
  · rename_i rest _
    obtain ⟨i, h, hs⟩ | h := hturn rest
    · exact .inl ⟨i, rest, h, .inl hs⟩
    · exact .inr (.inl ⟨rest, h⟩)
  · rename_i rest _
    split
    · obtain ⟨i, h, hs⟩ | h := hturn s.stim
      · exact .inl ⟨i, s.stim, h, .inl hs⟩
      · exact .inr (.inl ⟨s.stim, h⟩)
    · exact .inr (.inl ⟨rest, rfl⟩)
  · obtain ⟨i, h, hs⟩ | h := hturn s.stim
    · exact .inl ⟨i, s.stim, h, .inl hs⟩
    · exact .inr (.inl ⟨s.stim, h⟩)

theorem step_of_run {s t : State} {i : Instr} (h : s.fetch = .run i t) : step s = exec i t := by
  simp [step, h]

theorem step_of_settled {s t : State} (h : s.fetch = .settled t) : step s = .next t := by
  simp [step, h]

/-! ## Runs -/

@[simp] theorem steps_zero (s : State) : steps 0 s = .next s := rfl

theorem steps_succ {s t : State} (n : Nat) (h : step s = .next t) : steps (n + 1) s = steps n t := by
  simp [steps, h]

theorem steps_of_fault {s : State} {r : Fault} (n : Nat) (h : step s = .fault r) : steps (n + 1) s = .fault r := by
  simp [steps, h]

theorem steps_of_refused {s : State} {r : Refusal} (n : Nat) (h : step s = .refused r) :
    steps (n + 1) s = .refused r := by
  simp [steps, h]

/-- A run that reaches `t` in `m` steps goes on from `t`. -/
theorem steps_add {s t : State} (m n : Nat) (h : steps m s = .next t) : steps (m + n) s = steps n t := by
  induction m generalizing s with
  | zero =>
    have hst : s = t := by simpa using h
    rw [hst, Nat.zero_add]
  | succ m ih =>
    cases hs : step s with
    | next u =>
      rw [steps_succ m hs] at h
      rw [Nat.add_right_comm, steps_succ _ hs]
      exact ih h
    | fault r => simp [steps, hs] at h
    | refused r => simp [steps, hs] at h

theorem coreRun_of_next (M : Host.Core) (n : Nat) {s t : M.State} (h : M.step s = .next t) :
    M.run (n + 1) s = M.run n t := by
  simp [Host.Core.run, h]

theorem coreRun_of_fault (M : Host.Core) (n : Nat) {s : M.State} {r : M.Fault} (h : M.step s = .fault r) :
    M.run (n + 1) s = .fault r := by
  simp [Host.Core.run, h]

theorem coreRun_of_refused (M : Host.Core) (n : Nat) {s : M.State} {r : M.Refusal} (h : M.step s = .refused r) :
    M.run (n + 1) s = .refused r := by
  simp [Host.Core.run, h]

/-- `steps` is the host's run of this machine. -/
theorem steps_eq_run (n : Nat) (s : State) : steps n s = Host.Core.run Sys2Proof.core n s := by
  induction n generalizing s with
  | zero => rfl
  | succ n ih =>
    cases hs : step s with
    | next t => exact (steps_succ n hs).trans ((ih t).trans (coreRun_of_next Sys2Proof.core n hs).symm)
    | fault r => exact (steps_of_fault n hs).trans (coreRun_of_fault Sys2Proof.core n hs).symm
    | refused r => exact (steps_of_refused n hs).trans (coreRun_of_refused Sys2Proof.core n hs).symm

end Sys2Proof.Machine
end

