-- ==== Sys2Proof/Laws/PerInstr.lean ====
section
/-! SUPPORT. The family `TableRow`: in the table of its format, the word of every well-formed instruction is won by the
instruction's own row (R65, R73). -/

namespace Sys2Proof.Laws.TableRow

/-- The row of the opcode table that wins the instruction's word is the instruction's own. -/
def Statement (i : Instr) : Prop := i.wf = true → rowWins (tableOf i.format) (encodeWord i) i.op = true

theorem startDetect (last : Bool) : Statement (.startDetect last) := by
  intro _; revert last; decide

theorem noiseDiscard (last : Bool) (b : Byte) : Statement (.noiseDiscard last b) := by
  unfold Statement; revert last b; decide

theorem dataStore (b : Byte) : Statement (.dataStore b) := by
  intro _; revert b; decide

theorem dataStoreLast (b : Byte) : Statement (.dataStoreLast b) := by
  intro _; revert b; decide

theorem endOk (last : Bool) : Statement (.endOk last) := by
  intro _; revert last; decide

theorem endFail (last : Bool) (b : Byte) : Statement (.endFail last b) := by
  unfold Statement; revert last b; decide

theorem illegalState (last : Bool) (b : Byte) : Statement (.illegalState last b) := by
  intro _; revert last b; decide

theorem push (b : Byte) : Statement (.push b) := by
  intro _; revert b; decide

theorem avail : Statement .avail := by
  intro _; decide

theorem obsRead (n : BitVec 4) : Statement (.obsRead n) := by
  intro _; revert n; decide

theorem resetCfg (ch : Option ChannelId) (pin : PinId) : Statement (.resetCfg ch pin) := by
  intro _; exact (by decide : rowWins portTable (0b011#3 ++ 0#8) .resetCfg = true)

end Sys2Proof.Laws.TableRow
end

