-- ==== Sys2Proof/Tests/Slice0.lean ====
section
/-! SUPPORT. Tests of one step each, with the outcomes of 95_test_vectors.md (K1 to K17, A1 to A12, F1 to F8, CF1 to
CF11, O1 to O12) or read off the rules by hand; and, for every statement with hypotheses, a witness that meets them. -/

namespace Sys2Proof.Machine.Tests

open Sys2Proof Sys2Proof.Machine

/-! ## Small states -/

/-- The example configuration of 95_test_vectors.md: `C1` is 1, `C2` is 2, `P0` to `P3` are 0 to 3. -/
def exParams (depth : Nat) : Config.Params where
  fifoDepth := depth
  channels  := [1, 2]
  pins      := [0, 1, 2, 3]
  reserved  := [(1, [1, 2]), (2, [3])]

/-- Power-on, with the example configuration. -/
def off (depth : Nat) : State := { State.reset with params := exParams depth }

/-- What vector CF1 leaves: `RESET_CFG(C1, P0)`, with a given FIFO. -/
def on (depth : Nat) (fifo : List Byte) : State :=
  { off depth with run := true, channel := some 1, enPin := some 0, availPins := 0b1001, enN := .high, fifo := fifo }

/-- A list of bytes as buffer cells. -/
def cellsOf (bs : List Byte) : Memory := (List.range bs.length).zip bs

/-- The running parser in a given state. -/
def at_ (st : ParserState) (cursor : BitVec 4) (buf : Memory) (fifo : List Byte) : State :=
  { on 16 fifo with st := st, cursor := cursor, buf := buf }

/-- Payload `01 02 ... 09 0A` of the vectors. -/
def ten : List Byte := [1, 2, 3, 4, 5, 6, 7, 8, 9, 0x0A]

/-- A field of the next state an outcome answers, if it answers one. -/
def got {α : Type} (f : State → α) : Host.Outcome State Fault Refusal → Option α
  | .next t => some (f t)
  | .fault _ => none
  | .refused _ => none

/-- `STATE`, `CURSOR` and the ten cells. -/
structure ParserView where
  st     : ParserState
  cursor : BitVec 4
  cells  : List CellVal
deriving DecidableEq, Repr

/-- The FIFO, `COUNT` and `OVR`. -/
structure FifoView where
  fifo  : List Byte
  count : Nat
  ovr   : Bool
deriving DecidableEq, Repr

/-- What a construction leaves. -/
structure CfgView where
  cfgErr    : BitVec 3
  run       : Bool
  availPins : Nat
  enN       : Line
  status    : BitVec 16
deriving DecidableEq, Repr

def parserOf (t : State) : ParserView := ⟨t.st, t.cursor, t.buf.cells⟩

def fifoOf (t : State) : FifoView := ⟨t.fifo, t.count, t.ovr⟩

def cfgOf (t : State) : CfgView := ⟨t.cfgErr, t.run, t.availPins, t.enN, t.status⟩

/-! ## Ill-formed terms -/

/-- R65: the start byte in `AwaitingStart` is `START_DETECT`, never noise. -/
theorem test_illformed_noise_of_start_byte : (Instr.noiseDiscard false 0x0A#8).wf = false := by decide

/-- R65: the end byte in `AwaitingEnd` is `END_OK`, never a failure. -/
theorem test_illformed_fail_of_end_byte : (Instr.endFail true 0x0D#8).wf = false := by decide

/-! ## Decoding, words written out from R64 and R73 -/

/-- K1 to K7. -/
theorem test_decode_awaitingStart :
    decodeKey 0b00_0_00001010#11 = .startDetect false ∧ decodeKey 0b00_1_00001010#11 = .startDetect true
    ∧ decodeKey 0b00_0_00001101#11 = .noiseDiscard false 0x0D#8 ∧ decodeKey 0b00_0_11111111#11 = .noiseDiscard false 0xFF#8
    ∧ decodeKey 0b00_0_00000000#11 = .noiseDiscard false 0x00#8 ∧ decodeKey 0b00_0_00001011#11 = .noiseDiscard false 0x0B#8
    ∧ decodeKey 0b00_0_10001010#11 = .noiseDiscard false 0x8A#8 ∧ decodeKey 0b00_1_10001010#11 = .noiseDiscard true 0x8A#8 := by
  decide

/-- K8 to K11. -/
theorem test_decode_awaitingData :
    decodeKey 0b01_0_00001010#11 = .dataStore 0x0A#8 ∧ decodeKey 0b01_0_00001101#11 = .dataStore 0x0D#8
    ∧ decodeKey 0b01_1_00001010#11 = .dataStoreLast 0x0A#8 ∧ decodeKey 0b01_1_11111111#11 = .dataStoreLast 0xFF#8 := by
  decide

/-- K12 to K16. -/
theorem test_decode_awaitingEnd :
    decodeKey 0b10_0_00001101#11 = .endOk false ∧ decodeKey 0b10_1_00001101#11 = .endOk true
    ∧ decodeKey 0b10_0_00001010#11 = .endFail false 0x0A#8 ∧ decodeKey 0b10_0_00000000#11 = .endFail false 0x00#8
    ∧ decodeKey 0b10_0_00001100#11 = .endFail false 0x0C#8 ∧ decodeKey 0b10_0_10001101#11 = .endFail false 0x8D#8 := by
  decide

/-- K17, and a neighbour with `LAST` set. -/
theorem test_decode_reservedState :
    decodeKey 0b11_0_00000000#11 = .illegalState false 0x00#8
    ∧ decodeKey 0b11_1_00001101#11 = .illegalState true 0x0D#8 := by decide

/-- O12, and each operation at a second operand. -/
theorem test_decode_port :
    decodePort 0b000_00001010#11 Side.empty = some (.push 0x0A#8)
    ∧ decodePort 0b000_11111111#11 Side.empty = some (.push 0xFF#8)
    ∧ decodePort 0b001_00000000#11 Side.empty = some .avail
    ∧ decodePort 0b010_0000_0000#11 Side.empty = some (.obsRead 0#4)
    ∧ decodePort 0b010_0000_1111#11 Side.empty = some (.obsRead 15#4)
    ∧ decodePort 0b011_00000000#11 Side.empty = some (.resetCfg none 0)
    ∧ decodePort 0b011_00000000#11 { ch := some 2, pin := 1 } = some (.resetCfg (some 2) 1) := by decide

/-- O8 to O10, the ends of every reserved range of R73. -/
theorem test_decode_port_reserved :
    decodePort 0x101#11 Side.empty = none ∧ decodePort 0x1FF#11 Side.empty = none ∧ decodePort 0x210#11 Side.empty = none
    ∧ decodePort 0x2FF#11 Side.empty = none ∧ decodePort 0x301#11 Side.empty = none ∧ decodePort 0x3FF#11 Side.empty = none
    ∧ decodePort 0x400#11 Side.empty = none ∧ decodePort 0x7FF#11 Side.empty = none := by decide

/-- The words of K1, K10, K13 and O12, encoded. -/
theorem test_encode :
    encodeWord (.startDetect false) = 0x00A#11 ∧ encodeWord (.dataStoreLast 0x0A#8) = 0x30A#11
    ∧ encodeWord (.endFail false 0x0A#8) = 0x40A#11 ∧ encodeWord .avail = 0x100#11
    ∧ encodeWord (.resetCfg (some 1) 0) = 0x300#11 ∧ encodeWord (.push 0xFF#8) = 0x0FF#11 := by decide

/-- Bare table words (log 8): the words one format alone can have, and which format wins where both could. -/
theorem test_decode_table_word :
    decodeTableWord 16 0x00A = some (.startDetect false) ∧ decodeTableWord 16 0x18A = some (.noiseDiscard true 0x8A#8)
    ∧ decodeTableWord 16 0x220 = some (.dataStore 0x20#8) ∧ decodeTableWord 16 0x30A = some (.dataStoreLast 0x0A#8)
    ∧ decodeTableWord 16 0x40D = some (.endOk false) ∧ decodeTableWord 16 0x400 = some (.endFail false 0x00#8)
    ∧ decodeTableWord 16 0x600 = some (.illegalState false 0x00#8) ∧ decodeTableWord 16 0x000 = some (.push 0x00#8)
    ∧ decodeTableWord 16 0x100 = some .avail ∧ decodeTableWord 16 0x205 = some (.obsRead 5#4)
    ∧ decodeTableWord 16 0x300 = some (.resetCfg none 0) ∧ decodeTableWord 16 0x800 = none := by decide

/-- A key word placed after reset runs as the first operation: the buffer is cleared (R92). -/
theorem test_withFetchWord_startDetect :
    got parserOf (step (State.reset.withFetchWord 16 0x00A))
      = some ⟨.awaitingData, 0#4, List.replicate 10 (some 0#8)⟩ := by decide

/-- A port word placed after reset runs as the first operation: `RESET_CFG(ABSENT, _)` (R111, code 1). -/
theorem test_withFetchWord_resetCfg :
    got (fun t => (t.cfgErr, t.ret)) (step (State.reset.withFetchWord 16 0x300)) = some (1#3, .configError 1#3) := by
  decide

/-! ## The parser's actions -/

/-- A2: the cells of the previous payload are cleared. -/
theorem test_startDetect :
    got parserOf (exec (.startDetect false) (at_ .awaitingStart 10 (cellsOf ten) [0x0A, 1]))
      = some ⟨.awaitingData, 0#4, List.replicate 10 (some 0#8)⟩ := by decide

/-- A4: only the pop. -/
theorem test_noiseDiscard :
    got (fun t => (parserOf t, t.fifo, t.evt)) (exec (.noiseDiscard false 0xFF) (at_ .awaitingStart 0 [] [0xFF, 1]))
      = some (⟨.awaitingStart, 0#4, List.replicate 10 none⟩, [1#8], .none) := by decide

/-- A6. -/
theorem test_dataStore :
    got parserOf (exec (.dataStore 0x0D) (at_ .awaitingData 8 (cellsOf [1, 2, 3, 4, 5, 6, 7, 8, 0, 0]) [0x0D]))
      = some ⟨.awaitingData, 9#4, [1, 2, 3, 4, 5, 6, 7, 8, 0x0D, 0].map some⟩ := by decide

/-- A12: the fault, and nothing written. -/
theorem test_dataStore_fault :
    got (fun t => (t.fault, parserOf t, t.fifo)) (exec (.dataStore 7) (at_ .awaitingData 10 (cellsOf ten) [7]))
      = some (some .illegalState, ⟨.awaitingData, 10#4, ten.map some⟩, [7#8]) := by decide

/-- A7. -/
theorem test_dataStoreLast :
    got parserOf (exec (.dataStoreLast 0x0A) (at_ .awaitingData 9 (cellsOf [1, 2, 3, 4, 5, 6, 7, 8, 9, 0]) [0x0A]))
      = some ⟨.awaitingEnd, 10#4, ten.map some⟩ := by decide

/-- A8. -/
theorem test_endOk :
    got (fun t => (parserOf t, t.evt)) (exec (.endOk false) (at_ .awaitingEnd 10 (cellsOf ten) [0x0D]))
      = some (⟨.awaitingStart, 10#4, ten.map some⟩, .success (ten.map some)) := by decide

/-- A8's payload word. -/
theorem test_endOk_payload_word :
    got (fun t => t.evt.payloadWord) (exec (.endOk false) (at_ .awaitingEnd 10 (cellsOf ten) [0x0D]))
      = some (some 0x0A090807060504030201#80) := by decide

/-- A10: 0x0A is no new start. -/
theorem test_endFail :
    got (fun t => (parserOf t, t.evt)) (exec (.endFail false 0x0A) (at_ .awaitingEnd 10 (cellsOf ten) [0x0A]))
      = some (⟨.awaitingStart, 10#4, ten.map some⟩, .failure) := by decide

/-- R98: recorded, and no state element written. -/
theorem test_illegalState :
    got (fun t => (t.fault, parserOf t, fifoOf t, t.evt)) (exec (.illegalState false 0) (at_ .reserved 3 [] [0, 1]))
      = some (some .illegalState, ⟨.reserved, 3#4, List.replicate 10 none⟩, ⟨[0#8, 1#8], 2, false⟩, .none) := by decide

/-! ## The FIFO -/

/-- F2. -/
theorem test_push : got fifoOf (exec (.push 1) (on 2 [0x0A])) = some ⟨[0x0A#8, 1#8], 2, false⟩ := by decide

/-- F3: the byte is lost. -/
theorem test_push_full : got fifoOf (exec (.push 2) (on 2 [0x0A, 1])) = some ⟨[0x0A#8, 1#8], 2, true⟩ := by decide

/-- F4: a parser step leaves `OVR` set. -/
theorem test_pop_keeps_ovr :
    got fifoOf (step { on 2 [0x0A, 1] with ovr := true }) = some ⟨[1#8], 1, true⟩ := by decide

/-- F5. -/
theorem test_avail : got (fun t => (t.ret, t.fifo)) (exec .avail (on 2 [0x0A, 1])) = some (.count 2 2, [0x0A#8, 1#8]) := by
  decide

/-- F8. -/
theorem test_avail_no_reader : got (fun t => t.ret) (exec .avail (off 2)) = some (.count 2 0) := by decide

/-- R67's examples. -/
theorem test_countWidth : [1, 2, 4, 16, 120, 128].map countWidth = [1, 2, 3, 5, 7, 8] := by decide

/-! ## Construction and observation -/

/-- CF8: `P1` is reserved by `C1` only. -/
theorem test_resetCfg_valid :
    got cfgOf (exec (.resetCfg (some 2) 1) (off 16)) = some ⟨0#3, true, 0b0111, .high, 0x1880#16⟩ := by decide

/-- CF11: an error after a valid construction. -/
theorem test_resetCfg_reserved_pin :
    got (fun t => (cfgOf t, t.fifo, t.evt)) (exec (.resetCfg (some 1) 1) (on 16 [0x0A, 1]))
      = some (⟨3#3, false, 0, .z, 0x0300#16⟩, [], .none) := by decide

/-- CF1 to CF9: the codes. -/
theorem test_validate :
    [((some 1, 0) : Option ChannelId × PinId), (none, 0), (some 9, 0), (some 1, 1), (some 1, 7), (some 9, 7), (none, 1),
      (some 2, 1), (some 2, 3)].map (fun x => validate (exParams 16) x.1 x.2)
      = [0#3, 1#3, 2#3, 3#3, 4#3, 2#3, 1#3, 0#3, 3#3] := by decide

/-- O1 to O5. -/
theorem test_obsRead :
    [0#4, 1#4, 2#4, 4#4, 5#4].map (fun n => got (fun t => t.ret) (exec (.obsRead n) (on 16 [])))
      = [some (.port (.status 0x1880#16)), some (.port (.count 5 0)), some (.port (.channel 1)),
          some (.port (.availPins 4 0b1001)), some (.port .noValue)] := by decide

/-- O7. -/
theorem test_obsRead_15 :
    got (fun t => (t.refusedPort, t.ret)) (exec (.obsRead 15) (on 16 [])) = some (true, .refused .reservedPort) := by
  decide

/-! ## Witnesses: for each statement with hypotheses, states and operands that meet them, clause by clause -/

/-- Nine bytes of a payload, the tenth cell still 0. -/
def nine : Memory := cellsOf [1, 2, 3, 4, 5, 6, 7, 8, 9, 0]

/-- About to take the tenth payload byte. -/
def beforeLast : State := at_ .awaitingData 9 nine [0x0A]

/-- About to take the end byte. -/
def beforeEnd : State := at_ .awaitingEnd 10 (cellsOf ten) [0x0D]

/-- `off` with a schedule. -/
def offWith (l : List Turn) : State := { off 16 with stim := l }

/-- `on` with a schedule. -/
def onWith (fifo : List Byte) (l : List Turn) : State := { on 16 fifo with stim := l }

/-- `on` with the fault of R98 on record. -/
def faulted : State := { on 16 [1] with fault := some .illegalState }

/-! The invariant, part by part. -/

theorem test_inv_off16 : BlockInv (off 16) :=
  ⟨by decide, by decide, by decide, by decide, by decide, by decide, by decide, by decide⟩

theorem test_inv_off1 : BlockInv (off 1) :=
  ⟨by decide, by decide, by decide, by decide, by decide, by decide, by decide, by decide⟩

theorem test_inv_beforeLast : BlockInv beforeLast :=
  ⟨by decide, by decide, by decide, by decide, by decide, by decide, by decide, by decide⟩

theorem test_inv_beforeEnd : BlockInv beforeEnd :=
  ⟨by decide, by decide, by decide, by decide, by decide, by decide, by decide, by decide⟩

theorem test_inv_fullOfTwo : BlockInv (on 2 [1, 2]) :=
  ⟨by decide, by decide, by decide, by decide, by decide, by decide, by decide, by decide⟩

theorem test_inv_idle : BlockInv (on 16 []) :=
  ⟨by decide, by decide, by decide, by decide, by decide, by decide, by decide, by decide⟩

theorem test_inv_burst : BlockInv (on 16 [0x0A, 1, 0x0A]) :=
  ⟨by decide, by decide, by decide, by decide, by decide, by decide, by decide, by decide⟩

theorem test_witness_StepKeepsInvariant :
    BlockInv (off 16) ∧ BlockInv beforeLast ∧ BlockInv beforeEnd
    ∧ (∃ t, step (off 16) = .next t) ∧ (∃ t, step beforeLast = .next t) ∧ ∃ t, step beforeEnd = .next t :=
  ⟨test_inv_off16, test_inv_beforeLast, test_inv_beforeEnd, ⟨_, rfl⟩, ⟨_, rfl⟩, ⟨_, rfl⟩⟩

theorem test_witness_KeyHasStateLastAndByte :
    BlockInv beforeLast ∧ (beforeLast.keyFor 0x0A#8).getLsbD 8 = true := ⟨test_inv_beforeLast, by decide⟩

theorem test_witness_PortWordMap :
    (0x100 < (0x101#11).toNat ∧ (0x1FF#11).toNat < 0x200) ∧ (0x20F < (0x210#11).toNat ∧ (0x2FF#11).toNat < 0x300)
    ∧ 0x300 < (0x301#11).toNat ∧ 0x300 < (0x7FF#11).toNat := by decide

theorem test_witness_DecodeEncodeAgree :
    (Instr.noiseDiscard true 0x0D#8).wf = true ∧ (Instr.endFail false 0x0A#8).wf = true
    ∧ (Instr.resetCfg none 7).wf = true ∧ decode .port 0x20F#11 Side.empty = some (.obsRead 15#4) := by decide

theorem test_witness_ReservedPortWordIsRefused :
    (onWith [1] [.port 0x101#11 Side.empty, .parser]).stim = [.port 0x101#11 Side.empty, .parser]
    ∧ decodePort 0x101#11 Side.empty = none ∧ decodePort 0x7FF#11 Side.empty = none := by decide

theorem test_witness_StepRunsPortWord :
    (offWith [.port 0x20F#11 Side.empty, .drain]).stim = [.port 0x20F#11 Side.empty, .drain]
    ∧ decodePort 0x20F#11 Side.empty = some (.obsRead 15#4) := by decide

theorem test_witness_StepRunsSelectedAction :
    (onWith [0x0A, 1] []).run = true ∧ (onWith [0x0A, 1] []).fifo = [0x0A#8, 1#8] ∧ (onWith [0x0A, 1] []).stim = []
    ∧ (onWith [0x0A, 1] [.drain, .parser]).stim = [.drain, .parser]
    ∧ (onWith [0x0A, 1] [.parser, .drain]).stim = [.parser, .drain] := by decide

theorem test_witness_ParserEnabledExactly :
    (¬ ((on 16 []).run = true ∧ 0 < (on 16 []).count) ∧ (on 16 []).stim = [])
    ∧ (¬ ((offWith [.parser]).run = true ∧ 0 < (offWith [.parser]).count) ∧ (offWith [.parser]).stim = [.parser])
    ∧ (¬ ((onWith [] [.drain]).run = true ∧ 0 < (onWith [] [.drain]).count) ∧ (onWith [] [.drain]).stim = [.drain])
    ∧ (¬ ((offWith [.drain]).run = true ∧ 0 < (offWith [.drain]).count) ∧ (offWith [.drain]).stim = [.drain])
    ∧ (on 1 []).run = true ∧ (on 1 []).count = 0 ∧ 1 ≤ (on 1 []).params.fifoDepth := by decide

/-- `CURSOR` 0, 10 and 9 (where `LAST` is 1, K2's neighbour). -/
theorem test_witness_StartDetectResult :
    (∀ c ∈ [0#4, 9#4, 10#4], (at_ .awaitingStart c [] [0x0A]).run = true
      ∧ (at_ .awaitingStart c [] [0x0A]).st = .awaitingStart ∧ (at_ .awaitingStart c [] [0x0A]).fifo = [0x0A#8]) := by
  decide

theorem test_witness_NoiseDiscardResult :
    (∀ b ∈ [0x00#8, 0x0B#8, 0x8A#8, 0xFF#8], (on 16 [b, 0x0A]).run = true ∧ (on 16 [b, 0x0A]).st = .awaitingStart
      ∧ (on 16 [b, 0x0A]).fifo = b :: [0x0A#8] ∧ b ≠ 0x0A#8) := by decide

theorem test_witness_DataStoreResult :
    (∀ c ∈ [0#4, 8#4], (at_ .awaitingData c nine [7]).run = true ∧ (at_ .awaitingData c nine [7]).st = .awaitingData
      ∧ (at_ .awaitingData c nine [7]).fifo = [7#8] ∧ (at_ .awaitingData c nine [7]).cursor.toNat ≤ 8)
    ∧ ∀ c ∈ [10#4, 15#4], (at_ .awaitingData c nine [7]).run = true ∧ (at_ .awaitingData c nine [7]).st = .awaitingData
      ∧ (at_ .awaitingData c nine [7]).fifo = [7#8] ∧ 10 ≤ (at_ .awaitingData c nine [7]).cursor.toNat := by decide

theorem test_witness_DataStoreLastResult :
    beforeLast.run = true ∧ beforeLast.st = .awaitingData ∧ beforeLast.fifo = [0x0A#8] ∧ beforeLast.cursor = 9#4 := by
  decide

theorem test_witness_EndOkResult :
    beforeEnd.run = true ∧ beforeEnd.st = .awaitingEnd ∧ beforeEnd.fifo = [0x0D#8] ∧ BlockInv beforeEnd :=
  ⟨rfl, rfl, rfl, test_inv_beforeEnd⟩

theorem test_witness_EndFailResult :
    (∀ b ∈ [0x00#8, 0x0A#8, 0x0C#8, 0x8D#8], (at_ .awaitingEnd 10 nine [b]).run = true
      ∧ (at_ .awaitingEnd 10 nine [b]).st = .awaitingEnd ∧ (at_ .awaitingEnd 10 nine [b]).fifo = [b] ∧ b ≠ 0x0D#8) := by
  decide

theorem test_witness_IllegalStateRecordsFault :
    ((at_ .reserved 0 [] [0]).run = true ∧ (at_ .reserved 0 [] [0]).st = .reserved ∧ (at_ .reserved 0 [] [0]).fifo = [0#8])
    ∧ faulted.fault = some .illegalState
    ∧ (∃ t, exec (.resetCfg (some 1) 0) faulted = .next t) ∧ (Instr.resetCfg (some 1) 0).op = .resetCfg
    ∧ (∃ t, exec (.push 1) faulted = .next t) ∧ (Instr.push 1).op ≠ .resetCfg ∧ BlockInv beforeEnd :=
  ⟨by decide, rfl, ⟨_, rfl⟩, rfl, ⟨_, rfl⟩, by decide, test_inv_beforeEnd⟩

theorem test_witness_UnselectedActionDoesNothing :
    (∀ s ∈ [off 16, on 16 [0x0B], beforeEnd], s.selected ≠ some (.startDetect false))
    ∧ (Instr.startDetect false).format = .key := by decide

theorem test_witness_PushResult :
    (off 2).run = false
    ∧ ((on 2 [1]).run = true ∧ (on 2 [1]).count < (on 2 [1]).params.fifoDepth)
    ∧ (on 2 [1, 2]).run = true ∧ (on 2 [1, 2]).params.fifoDepth ≤ (on 2 [1, 2]).count := by decide

theorem test_witness_OverrunIsSticky :
    ((on 2 [1, 2]).run = true ∧ (on 2 [1, 2]).count = (on 2 [1, 2]).params.fifoDepth)
    ∧ (∃ t, exec (.push 3) (on 2 [1, 2]) = .next t) ∧ (Instr.push 3).op ≠ .resetCfg
    ∧ ∃ t, exec (.resetCfg none 0) (on 2 [1, 2]) = .next t :=
  ⟨by decide, ⟨_, rfl⟩, by decide, ⟨_, rfl⟩⟩

theorem test_witness_NoReaderNoInput : (off 16).run = false ∧ BlockInv (off 16) := ⟨rfl, test_inv_off16⟩

theorem test_witness_AvailResult : BlockInv (off 1) ∧ (off 1).run = false := ⟨test_inv_off1, rfl⟩

theorem test_witness_CountWidthIsLeast : 127 < 2 ^ 7 ∧ 128 < 2 ^ 8 ∧ BlockInv (on 2 [1, 2]) :=
  ⟨by decide, by decide, test_inv_fullOfTwo⟩

theorem test_witness_FifoKeepsOrder :
    (∃ t, exec (.endOk false) beforeEnd = .next t) ∧ (Instr.endOk false).format = .key
    ∧ (∃ t, exec (.push 5) (on 2 [1]) = .next t) ∧ (∃ t, exec (.resetCfg none 0) (on 2 [1]) = .next t)
    ∧ (∃ t, exec .avail (on 2 [1]) = .next t) ∧ ∃ t, exec (.obsRead 5) (on 2 [1]) = .next t :=
  ⟨⟨_, rfl⟩, rfl, ⟨_, rfl⟩, ⟨_, rfl⟩, ⟨_, rfl⟩, ⟨_, rfl⟩⟩

theorem test_witness_ResetCfgResult :
    validate (on 2 [1]).params (some 2) 1 = 0#3 ∧ validate (on 2 [1]).params (some 1) 7 ≠ 0#3 := by decide

theorem test_witness_ValidateAnswersFirstCause :
    (9 ∉ (exParams 16).channels)
    ∧ (1 ∈ (exParams 16).channels ∧ 1 ∈ reservedPins (exParams 16) 1)
    ∧ (1 ∈ (exParams 16).channels ∧ 7 ∉ reservedPins (exParams 16) 1 ∧ 7 ∉ (exParams 16).pins)
    ∧ (1 ∈ (exParams 16).channels ∧ 3 ∉ reservedPins (exParams 16) 1 ∧ 3 ∈ (exParams 16).pins)
    ∧ ({ off 16 with cfgErr := 4 }).cfgErr.toNat ≤ 4 ∧ (∃ t, exec (.push 1) { off 16 with cfgErr := 4 } = .next t)
    ∧ (Instr.push 1).op ≠ .resetCfg ∧ ∃ t, exec (.resetCfg (some 1) 7) (on 16 [1]) = .next t :=
  ⟨by decide, by decide, by decide, by decide, by decide, ⟨_, rfl⟩, by decide, ⟨_, rfl⟩⟩

theorem test_witness_ConstructionIsRepeatable :
    (off 16).params = beforeEnd.params ∧ (∃ t, exec (.resetCfg (some 1) 0) (off 16) = .next t)
    ∧ ∃ t, exec (.resetCfg (some 1) 0) beforeEnd = .next t :=
  ⟨rfl, ⟨_, rfl⟩, ⟨_, rfl⟩⟩

theorem test_witness_AvailMaskBits :
    (∃ t, exec (.endOk false) beforeEnd = .next t) ∧ (Instr.endOk false).op ≠ .resetCfg := ⟨⟨_, rfl⟩, by decide⟩

theorem test_witness_ConfigurationIsImmutable :
    (∃ t, exec (.push 1) (on 16 []) = .next t) ∧ (Instr.push 1).op ≠ .resetCfg := ⟨⟨_, rfl⟩, by decide⟩

theorem test_witness_EnableLineNeverLow :
    (validate (off 16).params (some 1) 0 = 0#3 ∧ ∃ t, exec (.resetCfg (some 1) 0) (off 16) = .next t)
    ∧ (∃ t, exec .avail (on 16 []) = .next t) ∧ Instr.avail.op ≠ .resetCfg
    ∧ (on 16 [1]).enN ≠ .low ∧ ∃ t, step (on 16 [1]) = .next t :=
  ⟨⟨by decide, ⟨_, rfl⟩⟩, ⟨_, rfl⟩, by decide, by decide, ⟨_, rfl⟩⟩

/-- Every port from 0 to 14 meets the hypothesis of the first part; the values `UNDEF` and given are both met. -/
theorem test_witness_ObsReadResult :
    (∀ n ∈ [0#4, 1#4, 2#4, 3#4, 4#4, 5#4, 14#4], n ≠ 15#4)
    ∧ beforeEnd.channel = some 1 ∧ (off 16).channel = none ∧ beforeEnd.enPin = some 0 ∧ (off 16).enPin = none
    ∧ beforeEnd.buf.read ((5#4).toNat - 5) = some 1#8 ∧ beforeEnd.buf.read ((14#4).toNat - 5) = some 0x0A#8
    ∧ (off 16).buf.read ((14#4).toNat - 5) = none ∧ BlockInv (off 16) ∧ (off 16).run = false :=
  ⟨by decide, rfl, rfl, rfl, rfl, by decide, by decide, by decide, test_inv_off16, rfl⟩

theorem test_witness_StatusWordLayout :
    BlockInv (on 16 []) ∧ got State.run (exec (.resetCfg (some 1) 0) (off 16)) = some true
    ∧ got State.run (exec (.resetCfg (some 9) 0) (on 16 [])) = some false :=
  ⟨test_inv_idle, by decide, by decide⟩

theorem test_witness_EventWordLayout :
    ten.length = 10 ∧ Evt.failure.kind ≠ 0b01#2 ∧ Evt.none.kind ≠ 0b01#2 := by decide

theorem test_witness_OneEventPerFrameEnd :
    (∃ t, step beforeEnd = .next t) ∧ beforeEnd.selected = some (.endOk false) ∧ beforeEnd.st = .awaitingEnd
    ∧ (∃ t, exec (.endOk false) beforeEnd = .next t)
    ∧ beforeLast.selected = some (.dataStoreLast 0x0A#8) ∧ beforeLast.st ≠ .awaitingEnd
    ∧ ∃ t, exec (.dataStoreLast 0x0A#8) beforeLast = .next t :=
  ⟨⟨_, rfl⟩, by decide, rfl, ⟨_, rfl⟩, by decide, by decide, ⟨_, rfl⟩⟩

theorem test_witness_NoEventCarriesUndef :
    BlockInv beforeEnd ∧ got State.evt (step beforeEnd) = some (.success (ten.map some)) :=
  ⟨test_inv_beforeEnd, by decide⟩

theorem test_witness_ParserStateIsOwned :
    (∃ t, exec (.push 1) (on 16 []) = .next t) ∧ (Instr.push 1).format = .port ∧ (Instr.push 1).op ≠ .resetCfg
    ∧ (∃ t, exec (.endOk false) beforeEnd = .next t) ∧ (Instr.endOk false).format = .key :=
  ⟨⟨_, rfl⟩, rfl, by decide, ⟨_, rfl⟩, rfl⟩

theorem test_witness_RecordsPersist :
    (∃ t, exec (.push 1) faulted = .next t) ∧ faulted.fault ≠ none
    ∧ (∃ t, step { on 16 [1] with refusedOp := true, refusedPort := true } = .next t)
    ∧ got State.fault (step (at_ .reserved 0 [] [0])) = some (some .illegalState)
    ∧ (at_ .reserved 0 [] [0]).fault ≠ some .illegalState :=
  ⟨⟨_, rfl⟩, by decide, ⟨_, rfl⟩, by decide, by decide⟩

theorem test_witness_StartByteInsideFrame :
    (∀ c ∈ [0#4, 9#4], (at_ .awaitingData c nine [0x0A]).run = true ∧ (at_ .awaitingData c nine [0x0A]).fifo = [0x0A#8]
      ∧ (at_ .awaitingData c nine [0x0A]).st = .awaitingData ∧ (at_ .awaitingData c nine [0x0A]).cursor.toNat ≤ 9)
    ∧ (at_ .awaitingEnd 10 nine [0x0A]).run = true ∧ (at_ .awaitingEnd 10 nine [0x0A]).fifo = [0x0A#8]
    ∧ (at_ .awaitingEnd 10 nine [0x0A]).st = .awaitingEnd := by decide

theorem test_witness_ParkedIndefinitely :
    (at_ .awaitingEnd 10 nine []).fifo = [] ∧ (at_ .awaitingEnd 10 nine []).stim = [] := by decide

/-- Both terminal bytes. -/
theorem test_witness_FrameEmitsItsEvent :
    ∀ e ∈ [0x0D#8, 0x0A#8], (on 16 (0x0A#8 :: (ten ++ e :: [1#8]))).run = true
      ∧ (on 16 (0x0A#8 :: (ten ++ e :: [1#8]))).st = .awaitingStart ∧ (on 16 (0x0A#8 :: (ten ++ e :: [1#8]))).stim = []
      ∧ ten.length = 10 ∧ (on 16 (0x0A#8 :: (ten ++ e :: [1#8]))).fifo = 0x0A#8 :: (ten ++ e :: [1#8]) := by decide

/-- A FIFO of depth 1, and both terminal bytes. -/
theorem test_witness_FeedFrameEmitsItsEvent :
    (on 1 []).run = true ∧ (on 1 []).st = .awaitingStart ∧ (on 1 []).fifo = [] ∧ 1 ≤ (on 1 []).params.fifoDepth
    ∧ ten.length = 10
    ∧ ∀ e ∈ [0x0D#8, 0xFF#8], ({ on 1 [] with stim := stimFeed (0x0A#8 :: ten ++ [e]) ++ [Turn.drain] } : State).stim
        = stimFeed (0x0A#8 :: ten ++ [e]) ++ [Turn.drain] := by decide

theorem test_witness_NoiseStreamIsSilent :
    (on 16 [0xFF, 0x0D, 0x0A]).run = true ∧ (on 16 [0xFF, 0x0D, 0x0A]).st = .awaitingStart
    ∧ (on 16 [0xFF, 0x0D, 0x0A]).stim = [] ∧ (∀ b ∈ [0xFF#8, 0x0D#8], b ≠ 0x0A#8)
    ∧ (on 16 [0xFF, 0x0D, 0x0A]).fifo = [0xFF#8, 0x0D#8] ++ [0x0A#8] := by decide

/-- The next frame's payload, none of it 0x0A. -/
def nextTen : List Byte := [0x11, 0x22, 0x33, 0x44, 0x55, 0x66, 0x77, 0x88, 0x99, 0xAA]

/-- P8's bytes. -/
def lossy : State := on 32 (0x0A#8 :: (ten.take 9 ++ 0x0D#8 :: 0x0A#8 :: (nextTen ++ 0x0D#8 :: [1#8])))

theorem test_witness_LostByteCostsOneFailure :
    lossy.run = true ∧ lossy.st = .awaitingStart ∧ lossy.stim = [] ∧ (ten.take 9).length = 9 ∧ nextTen.length = 10
    ∧ (∀ b ∈ nextTen, b ≠ 0x0A#8)
    ∧ lossy.fifo = 0x0A#8 :: (ten.take 9 ++ 0x0D#8 :: 0x0A#8 :: (nextTen ++ 0x0D#8 :: [1#8])) := by decide

theorem test_witness_ParserDrainsTheFifo :
    BlockInv (on 16 [0x0A, 1, 0x0A]) ∧ (on 16 [0x0A, 1, 0x0A]).run = true ∧ (on 16 [0x0A, 1, 0x0A]).stim = [] :=
  ⟨test_inv_burst, rfl, rfl⟩

end Sys2Proof.Machine.Tests
end

/-! ## No step stops the machine, and none changes the parameters (R11, R12, R134) -/

namespace Sys2Proof.Machine

/-- Everything a step can do: an operation, run with only the schedule changed, or a turn that runs none, which clears
the outputs and at most sets the mark `ReservedOp`. -/
theorem step_cases (s : State) :
    (∃ i l, step s = exec i { s with stim := l } ∧ (s.selected = some i ∨ ∃ w side, decodePort w side = some i))
    ∨ (∃ l, step s = .next (State.quiet { s with stim := l }))
    ∨ (∃ l, step s = .next (State.quiet { s with stim := l }).refuseOp) := by
  obtain ⟨i, l, h, hi⟩ | ⟨l, h⟩ | ⟨l, h⟩ := s.fetch_cases
  · exact .inl ⟨i, l, step_of_run h, hi⟩
  · exact .inr (.inl ⟨l, step_of_settled h⟩)
  · exact .inr (.inr ⟨l, step_of_settled h⟩)

/-- A parser step keeps the parameters where its action does. -/
theorem State.consume_params (s : State) (i : Instr) {act : State → State}
    (hact : ∀ t, (act t).params = t.params) : (s.consume i act).params = s.params := by
  obtain ⟨-, h⟩ | ⟨-, h⟩ := s.consume_cases i act
  · rw [h, hact, State.quiet_params]
  · rw [h, State.quiet_params]

/-- Every operation answers a next state, and keeps the parameters. -/
theorem exec_next_params (i : Instr) (s : State) : ∃ t, exec i s = .next t ∧ t.params = s.params := by
  cases i with
  | startDetect last => exact ⟨_, exec_startDetect s last, s.consume_params _ (by simp)⟩
  | noiseDiscard last b => exact ⟨_, exec_noiseDiscard s last b, s.consume_params _ (by simp)⟩
  | dataStore b =>
    refine ⟨_, exec_dataStore s b, s.consume_params _ fun t => ?_⟩
    split
    · simp
    · simp
  | dataStoreLast b => exact ⟨_, exec_dataStoreLast s b, s.consume_params _ (by simp)⟩
  | endOk last => exact ⟨_, exec_endOk s last, s.consume_params _ (by simp)⟩
  | endFail last b => exact ⟨_, exec_endFail s last b, s.consume_params _ (by simp)⟩
  | illegalState last b => exact ⟨_, exec_illegalState s last b, s.consume_params _ (by simp)⟩
  | push b => exact ⟨_, exec_push s b, by simp⟩
  | avail => exact ⟨_, exec_avail s, by simp⟩
  | obsRead n =>
    refine ⟨_, exec_obsRead s n, ?_⟩
    split
    · simp
    · simp
  | resetCfg ch pin =>
    refine ⟨_, exec_resetCfg s ch pin, ?_⟩
    split
    · simp
    · simp

/-- Settles O13: an operation keeps the parameters (`exec_next_params`), and so does a turn that runs none. -/
theorem stepAlwaysAnswersNext : Obligations.StepAlwaysAnswersNext := by
  intro s
  obtain ⟨i, l, h, -⟩ | ⟨l, h⟩ | ⟨l, h⟩ := step_cases s
  · obtain ⟨t, ht, hp⟩ := exec_next_params i { s with stim := l }
    exact ⟨t, h.trans ht, hp⟩
  · exact ⟨_, h, by simp⟩
  · exact ⟨_, h, by simp⟩

end Sys2Proof.Machine

/-! ## The invariant of the block: its rule per operation, and every step keeps it (R24 to R32, R134) -/

namespace Sys2Proof.Machine

/-! ### The action a key selects, read off the state (R64, R65) -/

/-- The "Operands" lines of R92 to R98: action `i` is the one that byte `b` selects in state `s`. -/
def State.Fires (s : State) (b : Byte) : Instr → Prop
  | .startDetect last => s.st = .awaitingStart ∧ lastFlag s.cursor = last ∧ b = Config.startByte
  | .noiseDiscard last c => s.st = .awaitingStart ∧ lastFlag s.cursor = last ∧ b = c ∧ b ≠ Config.startByte
  | .dataStore c => s.st = .awaitingData ∧ s.cursor ≠ 9#4 ∧ b = c
  | .dataStoreLast c => s.st = .awaitingData ∧ s.cursor = 9#4 ∧ b = c
  | .endOk last => s.st = .awaitingEnd ∧ lastFlag s.cursor = last ∧ b = Config.endByte
  | .endFail last c => s.st = .awaitingEnd ∧ lastFlag s.cursor = last ∧ b = c ∧ b ≠ Config.endByte
  | .illegalState last c => s.st = .reserved ∧ lastFlag s.cursor = last ∧ b = c
  | .push _ | .avail | .obsRead _ | .resetCfg _ _ => False

theorem decodeKey_keyFor_eq_iff (s : State) (b : Byte) (i : Instr) : decodeKey (s.keyFor b) = i ↔ s.Fires b i := by
  unfold State.keyFor
  cases hst : s.st with
  | awaitingStart =>
    rw [decodeKey_awaitingStart]
    by_cases hb : b = Config.startByte <;> cases i <;> simp [State.Fires, hst, hb]
  | awaitingData =>
    rw [decodeKey_awaitingData]
    by_cases hc : s.cursor = 9#4 <;> cases i <;> simp [State.Fires, lastFlag, hst, hc]
  | awaitingEnd =>
    rw [decodeKey_awaitingEnd]
    by_cases hb : b = Config.endByte <;> cases i <;> simp [State.Fires, hst, hb]
  | reserved =>
    rw [decodeKey_reserved]
    cases i <;> simp [State.Fires, hst]

/-- A selected action is one the running parser fires on the FIFO's head byte. -/
theorem State.fires_of_selected {s : State} {i : Instr} (h : s.selected = some i) :
    s.run = true ∧ ∃ b, s.Fires b i := by
  obtain ⟨hr, b, rest, -, hk⟩ := (s.selected_eq_some_iff i).mp h
  exact ⟨hr, b, (decodeKey_keyFor_eq_iff s b i).mp hk⟩

/-! ### The buffer and the event -/

theorem BufFull.write {m : Memory} (h : BufFull m) (i : Nat) (v : Byte) : BufFull (m.write i v) := by
  intro k hk
  rw [Memory.read_write]
  split
  · rfl
  · exact h k hk

theorem bufFull_zeroed : BufFull Memory.zeroed := fun k hk => by simp [Memory.read_zeroed hk]

theorem bufUndef_nil : BufUndef [] := fun _ _ => rfl

/-- R25 where the parser starts afresh, at power-on and after `RESET_CFG`. -/
theorem parserInv_of_afresh {s : State} (hst : s.st = .awaitingStart) (hc : s.cursor = 0) (hbuf : s.buf = []) :
    ParserInv s :=
  ⟨by simp [hst], fun _ => .inl ⟨hc, hbuf ▸ bufUndef_nil⟩, by simp [hst], by simp [hst]⟩

/-- R96 with a full buffer: the success event is ten bytes. -/
theorem Evt.complete_success_cells {m : Memory} (h : BufFull m) : (Evt.success m.cells).complete = true := by
  have hall : m.cells.all Option.isSome = true := by
    simpa [Memory.cells, Config.payloadLen] using h
  simp [Evt.complete, hall]

/-- A complete success event carries ten bytes, none `UNDEF`. -/
theorem Evt.bytes_of_complete_success {p : List CellVal} (h : (Evt.success p).complete = true) :
    ∃ bytes : List Byte, bytes.length = 10 ∧ p = bytes.map some := by
  obtain ⟨hlen, hsome⟩ : p.length = 10 ∧ ∀ c ∈ p, c.isSome = true := by simpa [Evt.complete] using h
  obtain ⟨bytes, rfl⟩ : p ∈ Set.range (List.map some) := by
    rw [Set.range_list_map]
    intro c hc
    obtain ⟨b, hb⟩ := Option.isSome_iff_exists.mp (hsome c hc)
    exact ⟨b, hb.symm⟩
  exact ⟨bytes, by simpa using hlen, rfl⟩

/-! ### One rule per state operation -/

section

variable {s : State} (h : BlockInv s)

include h

theorem BlockInv.withStim (l : List Turn) : BlockInv { s with stim := l } := h

theorem BlockInv.quiet : BlockInv s.quiet := by
  obtain ⟨hok, hparser, hwf, hcount, hlife, hsafe, -, hevents⟩ := h
  exact ⟨hok, hparser, hwf, hcount, hlife, hsafe, .inl rfl, hevents⟩

theorem BlockInv.returning (r : Ret) : BlockInv (s.returning r) := h

theorem BlockInv.refuseOp : BlockInv s.refuseOp := h

theorem BlockInv.refusePort : BlockInv s.refusePort := h

theorem BlockInv.emit {e : Evt} (he : e.complete = true) : BlockInv (s.emit e) := by
  obtain ⟨hok, hparser, hwf, hcount, hlife, hsafe, -, hevents⟩ := h
  refine ⟨hok, hparser, hwf, hcount, hlife, hsafe, .inr he, fun d hd => ?_⟩
  obtain hd | hd := List.mem_append.mp hd
  · exact hevents d hd
  · exact List.mem_singleton.mp hd ▸ he

/-- With `RUN == 0` the FIFO was already empty, so the pop leaves it so. -/
theorem BlockInv.popFifo : BlockInv s.popFifo := by
  obtain ⟨hok, hparser, hwf, hcount, ⟨hon, hoff⟩, hsafe, hevt, hevents⟩ := h
  refine ⟨hok, hparser, hwf, ?_, ⟨hon, fun hr => ?_⟩, hsafe, hevt, hevents⟩
  · simp only [State.count, State.popFifo_fifo, State.popFifo_params, List.length_tail] at hcount ⊢
    omega
  · obtain ⟨herr, hen, hch, hpin, havail, hst, hcur, hbuf, hfifo, hovr⟩ := hoff hr
    exact ⟨herr, hen, hch, hpin, havail, hst, hcur, hbuf, by simp [hfifo], hovr⟩

theorem BlockInv.pushFifo (b : Byte) : BlockInv (s.pushFifo b) := by
  obtain ⟨-, heq⟩ | ⟨hr, hroom, heq⟩ | ⟨hr, -, heq⟩ := s.pushFifo_cases b
  · rwa [heq]
  · obtain ⟨hok, hparser, hwf, -, ⟨hon, -⟩, hsafe, hevt, hevents⟩ := h
    rw [heq]
    refine ⟨hok, hparser, hwf, ?_, ⟨hon, fun hoff => nomatch hr.symm.trans hoff⟩, hsafe, hevt, hevents⟩
    simpa [State.count, Nat.succ_le_iff] using hroom
  · obtain ⟨hok, hparser, hwf, hcount, ⟨hon, -⟩, hsafe, hevt, hevents⟩ := h
    rw [heq]
    exact ⟨hok, hparser, hwf, hcount, ⟨hon, fun hoff => nomatch hr.symm.trans hoff⟩, hsafe, hevt, hevents⟩

/-- With `RUN == 1` the lifecycle facts say nothing of the parser, so R25 and the canonical form are all that a write
of `STATE`, `CURSOR` and `BUF` has to keep. -/
theorem BlockInv.parserWrite (hr : s.run = true) (st : ParserState) (cursor : BitVec 4) (buf : Memory)
    (hparser : ParserInv { s with st := st, cursor := cursor, buf := buf }) (hwf : buf.wf = true) :
    BlockInv { s with st := st, cursor := cursor, buf := buf } := by
  obtain ⟨hok, -, -, hcount, ⟨hon, -⟩, hsafe, hevt, hevents⟩ := h
  exact ⟨hok, hparser, hwf, hcount, ⟨hon, fun hoff => nomatch hr.symm.trans hoff⟩, hsafe, hevt, hevents⟩

theorem BlockInv.startFrame (hr : s.run = true) : BlockInv s.startFrame := by
  refine h.parserWrite hr _ _ _ ⟨nofun, nofun, fun _ => ?_, nofun⟩ Memory.wf_zeroed
  exact ⟨Nat.zero_le _, bufFull_zeroed, fun k hk _ => Memory.read_zeroed hk⟩

/-- In `AwaitingData` with `CURSOR` not 9, R25 leaves 0 to 8: the write is inside the buffer and `CURSOR + 1` does not
wrap. -/
theorem BlockInv.storeByte (hr : s.run = true) (hst : s.st = .awaitingData) (hc : s.cursor ≠ 9#4) (b : Byte) :
    BlockInv (s.storeByte b) := by
  obtain ⟨-, ⟨-, -, hdata, -⟩, hwf, -⟩ := id h
  obtain ⟨hle, hfull, hzero⟩ := hdata hst
  have hnext : (s.cursor + 1).toNat = s.cursor.toNat + 1 := by bv_omega
  have hlt : s.cursor.toNat < 9 := by bv_omega
  have hcells : ∀ k < 10, (s.cursor + 1).toNat ≤ k → (s.buf.write s.cursor.toNat b).read k = some 0 := by
    intro k hk hck
    rw [Memory.read_write_other _ _ (by omega)]
    exact hzero k hk (by omega)
  refine h.parserWrite hr s.st _ _ ?_ (Memory.wf_write _ _ hwf (by omega))
  simp only [ParserInv, hst]
  exact ⟨nofun, nofun, fun _ => ⟨by omega, hfull.write _ _, hcells⟩, nofun⟩

theorem BlockInv.storeLast (hr : s.run = true) (hst : s.st = .awaitingData) (b : Byte) : BlockInv (s.storeLast b) := by
  obtain ⟨-, ⟨-, -, hdata, -⟩, hwf, -⟩ := id h
  obtain ⟨-, hfull, -⟩ := hdata hst
  exact h.parserWrite hr _ _ _ ⟨nofun, nofun, nofun, fun _ => ⟨rfl, hfull.write _ _⟩⟩
    (Memory.wf_write _ _ hwf (by decide))

theorem BlockInv.endFrame (hr : s.run = true) (hst : s.st = .awaitingEnd) : BlockInv s.endFrame := by
  obtain ⟨-, ⟨-, -, -, hend⟩, hwf, -⟩ := id h
  exact h.parserWrite hr _ _ _ ⟨nofun, fun _ => .inr (hend hst), nofun, nofun⟩ hwf

/-- R110 with a valid configuration: everything the running block's lifecycle asks of it is what `validate` checked. -/
theorem BlockInv.fresh_construct {ch : Option ChannelId} {pin : PinId} (hv : validate s.params ch pin = 0#3) :
    BlockInv (s.fresh.construct ch pin (availMask s.params ch)) := by
  obtain ⟨hok, -, -, -, -, -, hevt, hevents⟩ := h
  obtain ⟨c, rfl, hc, hfree, hpin⟩ := (validate_eq_zero_iff s.params ch pin).mp hv
  exact ⟨hok, parserInv_of_afresh rfl rfl rfl, Memory.wf_nil, Nat.zero_le _,
    ⟨fun _ => ⟨rfl, rfl, c, hc, pin, hpin, rfl, rfl, hfree, rfl⟩, nofun⟩, rfl, hevt, hevents⟩

/-- R110 with an invalid configuration: the block is as at power-on, but for `CFGERR`. -/
theorem BlockInv.fresh_raiseConfigError {code : BitVec 3} (hcode : code.toNat ≤ 4) :
    BlockInv (s.fresh.raiseConfigError code) := by
  obtain ⟨hok, -, -, -, -, -, hevt, hevents⟩ := h
  exact ⟨hok, parserInv_of_afresh rfl rfl rfl, Memory.wf_nil, Nat.zero_le _,
    ⟨nofun, fun _ => ⟨hcode, rfl, rfl, rfl, rfl, rfl, rfl, bufUndef_nil, rfl, rfl⟩⟩, rfl, hevt, hevents⟩

/-- A parser step keeps the invariant where its action does, on the states in which the action fires. -/
theorem BlockInv.consume {i : Instr} {act : State → State}
    (hact : ∀ b, s.quiet.run = true → s.quiet.Fires b i → BlockInv (act s.quiet)) : BlockInv (s.consume i act) := by
  obtain ⟨hs, heq⟩ | ⟨-, heq⟩ := s.consume_cases i act
  · obtain ⟨hr, b, hb⟩ := State.fires_of_selected (s := s.quiet) hs
    exact heq ▸ hact b hr hb
  · exact heq ▸ h.quiet

end

/-! ### Operations and steps -/

/-- Every operation keeps the invariant. R25 is what shuts out the two faulting cases: `STATE` is never the reserved
code, and in `AwaitingData` `CURSOR` is below 10. -/
theorem exec_keeps_blockInv {s : State} (h : BlockInv s) (i : Instr) : ∃ t, exec i s = .next t ∧ BlockInv t := by
  have hq := h.quiet
  have hpop := hq.popFifo
  cases i with
  | startDetect last => exact ⟨_, exec_startDetect s last, h.consume fun _ hr _ => hpop.startFrame hr⟩
  | noiseDiscard last b => exact ⟨_, exec_noiseDiscard s last b, h.consume fun _ _ _ => hpop⟩
  | dataStore b =>
    refine ⟨_, exec_dataStore s b, h.consume fun _ hr ⟨hst, hc, _⟩ => ?_⟩
    obtain ⟨-, ⟨-, -, hdata, -⟩, -⟩ := hq
    have hlt : s.quiet.cursor.toNat < Config.payloadLen := Nat.lt_succ_of_le (hdata hst).1
    simpa only [if_pos hlt] using hpop.storeByte hr hst hc b
  | dataStoreLast b =>
    exact ⟨_, exec_dataStoreLast s b, h.consume fun _ hr ⟨hst, _⟩ => hpop.storeLast hr hst b⟩
  | endOk last =>
    refine ⟨_, exec_endOk s last, h.consume fun _ hr ⟨hst, _⟩ => ?_⟩
    obtain ⟨-, ⟨-, -, -, hend⟩, -⟩ := hq
    exact (hpop.emit (Evt.complete_success_cells (hend hst).2)).endFrame hr hst
  | endFail last b =>
    exact ⟨_, exec_endFail s last b, h.consume fun _ hr ⟨hst, _⟩ => (hpop.emit rfl).endFrame hr hst⟩
  | illegalState last b =>
    refine ⟨_, exec_illegalState s last b, h.consume fun _ _ ⟨hst, _⟩ => ?_⟩
    obtain ⟨-, ⟨hres, -⟩, -⟩ := hq
    exact absurd hst hres
  | push b => exact ⟨_, exec_push s b, hq.pushFifo b⟩
  | avail => exact ⟨_, exec_avail s, hq.returning _⟩
  | obsRead n =>
    refine ⟨_, exec_obsRead s n, ?_⟩
    split
    · exact hq.refusePort
    · exact hq.returning _
  | resetCfg ch pin =>
    refine ⟨_, exec_resetCfg s ch pin, ?_⟩
    split
    · rename_i hv
      exact hq.fresh_construct hv
    · exact hq.fresh_raiseConfigError (validate_le _ _ _)

/-- Settles O3: an operation keeps the invariant (`exec_keeps_blockInv`), and so does a turn that runs none. -/
theorem stepKeepsInvariant : Obligations.StepKeepsInvariant := by
  intro s t h hstep
  obtain ⟨i, l, heq, -⟩ | ⟨l, heq⟩ | ⟨l, heq⟩ := step_cases s
  · obtain ⟨u, hu, hinv⟩ := exec_keeps_blockInv (h.withStim l) i
    cases (hstep.symm.trans heq).trans hu
    exact hinv
  · cases hstep.symm.trans heq
    exact (h.withStim l).quiet
  · cases hstep.symm.trans heq
    exact (h.withStim l).quiet.refuseOp

/-- Settles O38: the step keeps the invariant, which has every event complete. -/
theorem noEventCarriesUndef : Obligations.NoEventCarriesUndef := by
  intro s t p h hstep hevt
  obtain ⟨-, -, -, -, -, -, hcomplete, -⟩ := stepKeepsInvariant s t h hstep
  rw [hevt] at hcomplete
  exact Evt.bytes_of_complete_success (hcomplete.resolve_left nofun)

theorem params_ok : Config.params.Ok := ⟨Nat.succ_pos _, nofun, nofun⟩

/-- Settles O2: the parameters are allowed ones, and the rest is read off the power-on column of R36. -/
theorem powerOnHasInvariant : Obligations.PowerOnHasInvariant :=
  ⟨params_ok, parserInv_of_afresh rfl rfl rfl, Memory.wf_nil, Nat.zero_le _,
    ⟨nofun, fun _ => ⟨Nat.zero_le _, rfl, rfl, rfl, rfl, rfl, rfl, bufUndef_nil, rfl, rfl⟩⟩, rfl, .inl rfl, nofun⟩

end Sys2Proof.Machine

/-! ## The FIFO across an operation (R48, R80, R82) -/

namespace Sys2Proof.Machine

/-- Every key operation is a parser step, whose action leaves the FIFO or drops its head. -/
theorem exec_key_eq_consume {i : Instr} (hi : i.format = .key) (s : State) :
    ∃ act : State → State, exec i s = .next (s.consume i act)
      ∧ ∀ t, (act t).fifo = t.fifo ∨ (act t).fifo = t.fifo.tail := by
  cases i with
  | startDetect last => exact ⟨_, exec_startDetect s last, fun _ => .inr rfl⟩
  | noiseDiscard last b => exact ⟨_, exec_noiseDiscard s last b, fun _ => .inr rfl⟩
  | dataStore b =>
    refine ⟨_, exec_dataStore s b, fun t => ?_⟩
    split
    · exact .inr rfl
    · exact .inl rfl
  | dataStoreLast b => exact ⟨_, exec_dataStoreLast s b, fun _ => .inr rfl⟩
  | endOk last => exact ⟨_, exec_endOk s last, fun _ => .inr rfl⟩
  | endFail last b => exact ⟨_, exec_endFail s last b, fun _ => .inr rfl⟩
  | illegalState last b => exact ⟨_, exec_illegalState s last b, fun _ => .inl rfl⟩
  | push | avail | obsRead | resetCfg => nomatch hi

/-- Where the action leaves the FIFO or drops its head, a parser step leaves it or takes the byte its key was formed
from: with the action selected the FIFO is not empty, and its head is that byte. -/
theorem State.consume_fifo (s : State) (i : Instr) {act : State → State}
    (hact : ∀ t, (act t).fifo = t.fifo ∨ (act t).fifo = t.fifo.tail) :
    (s.consume i act).fifo = s.fifo
      ∨ (s.selected = some i ∧ ∃ b, s.fifo = b :: (s.consume i act).fifo ∧ decodeKey (s.keyFor b) = i) := by
  obtain ⟨hs, heq⟩ | ⟨-, heq⟩ := s.consume_cases i act
  · obtain ⟨-, b, rest, hf, hk⟩ := (s.selected_eq_some_iff i).mp hs
    rw [heq]
    obtain hkeep | hpop := hact s.quiet
    · exact .inl hkeep
    · exact .inr ⟨hs, b, by rw [hpop, State.quiet_fifo, hf, List.tail_cons], hk⟩
  · exact .inl (by rw [heq, State.quiet_fifo])

theorem State.pushFifo_fifo (s : State) (b : Byte) :
    (s.pushFifo b).fifo = s.fifo ∨ (s.pushFifo b).fifo = s.fifo ++ [b] := by
  obtain ⟨-, h⟩ | ⟨-, -, h⟩ | ⟨-, -, h⟩ := s.pushFifo_cases b
  · exact .inl (by rw [h])
  · exact .inr (by rw [h])
  · exact .inl (by rw [h])

theorem fifo_of_exec_resetCfg {s t : State} {ch : Option ChannelId} {pin : PinId}
    (h : exec (.resetCfg ch pin) s = .next t) : t.fifo = [] := by
  cases (exec_resetCfg s ch pin).symm.trans h
  split
  · rfl
  · rfl

theorem fifo_of_exec_avail {s t : State} (h : exec .avail s = .next t) : t.fifo = s.fifo := by
  cases (exec_avail s).symm.trans h
  rfl

theorem fifo_of_exec_obsRead {s t : State} {n : BitVec 4} (h : exec (.obsRead n) s = .next t) : t.fifo = s.fifo := by
  cases (exec_obsRead s n).symm.trans h
  split
  · rfl
  · rfl

/-- Settles O27: a key operation is a parser step (`exec_key_eq_consume`), which obeys `State.consume_fifo`; each port
operation has its own rule above. -/
theorem fifoKeepsOrder : Obligations.FifoKeepsOrder := by
  intro i s t h
  refine ⟨fun hi => ?_, ?_, fun hi => ?_, fun hi => ?_⟩
  · obtain ⟨act, heq, hact⟩ := exec_key_eq_consume hi s
    cases heq.symm.trans h
    exact s.consume_fifo i hact
  · rintro b rfl
    cases (exec_push s b).symm.trans h
    exact s.quiet.pushFifo_fifo b
  · cases i with
    | resetCfg ch pin => exact fifo_of_exec_resetCfg h
    | _ => nomatch hi
  · cases i with
    | avail => exact fifo_of_exec_avail h
    | obsRead n => exact fifo_of_exec_obsRead h
    | _ => nomatch hi

end Sys2Proof.Machine

/-! ## The encodings: keys and port words, decoded and encoded (R60, R61, R64, R65, R73) -/

namespace Sys2Proof

/-! ### Key words -/

theorem exists_keyWord_eq (k : OpWord) : ∃ st last b, k = keyWord st last b :=
  ⟨_, _, _, (keyWord_fields k).symm⟩

theorem keyWord_inj {st st' : ParserState} {last last' : Bool} {b b' : Byte} :
    keyWord st last b = keyWord st' last' b' ↔ st = st' ∧ last = last' ∧ b = b' := by
  constructor
  · intro h
    exact ⟨by simpa using congrArg keyState h, by simpa using congrArg keyLast h, by simpa using congrArg keyByte h⟩
  · rintro ⟨rfl, rfl, rfl⟩
    rfl

/-- R64, R65: a key action is the one a key selects exactly when it is well formed and the key is its word. -/
theorem decodeKey_eq_iff (k : OpWord) (i : Instr) :
    decodeKey k = i ↔ i.format = .key ∧ i.wf = true ∧ k = encodeWord i := by
  constructor
  · rintro rfl
    obtain ⟨st, last, b, rfl⟩ := exists_keyWord_eq k
    cases st with
    | awaitingStart =>
      rw [decodeKey_awaitingStart]
      by_cases hb : b = Config.startByte
      · simp [hb, Instr.format, Instr.wf, encodeWord]
      · simp [hb, Instr.format, Instr.wf, encodeWord]
    | awaitingData =>
      rw [decodeKey_awaitingData]
      cases last with
      | false => exact ⟨rfl, rfl, rfl⟩
      | true => exact ⟨rfl, rfl, rfl⟩
    | awaitingEnd =>
      rw [decodeKey_awaitingEnd]
      by_cases hb : b = Config.endByte
      · simp [hb, Instr.format, Instr.wf, encodeWord]
      · simp [hb, Instr.format, Instr.wf, encodeWord]
    | reserved =>
      rw [decodeKey_reserved]
      exact ⟨rfl, rfl, rfl⟩
  · rintro ⟨hkey, hwf, rfl⟩
    cases i with
    | startDetect last => exact (decodeKey_awaitingStart last _).trans (if_pos rfl)
    | noiseDiscard last b => exact (decodeKey_awaitingStart last b).trans (if_neg (by simpa [Instr.wf] using hwf))
    | dataStore b => exact decodeKey_awaitingData false b
    | dataStoreLast b => exact decodeKey_awaitingData true b
    | endOk last => exact (decodeKey_awaitingEnd last _).trans (if_pos rfl)
    | endFail last b => exact (decodeKey_awaitingEnd last b).trans (if_neg (by simpa [Instr.wf] using hwf))
    | illegalState last b => exact decodeKey_reserved last b
    | push | avail | obsRead | resetCfg => nomatch hkey

theorem decodeKey_encodeWord {i : Instr} (hkey : i.format = .key) (hwf : i.wf = true) :
    decodeKey (encodeWord i) = i :=
  (decodeKey_eq_iff _ i).mpr ⟨hkey, hwf, rfl⟩

/-! ### Port words -/

@[simp] theorem portOp_append (op : BitVec 3) (arg : Byte) : portOp (op ++ arg) = op :=
  BitVec.extractLsb'_append_eq_left

@[simp] theorem portArg_append (op : BitVec 3) (arg : Byte) : portArg (op ++ arg) = arg :=
  BitVec.extractLsb'_append_eq_right

/-- A port word is its operation code and its operand bits: no bit is lost. -/
theorem portWord_eq {w : OpWord} {op : BitVec 3} {arg : Byte} (hop : portOp w = op) (harg : portArg w = arg) :
    op ++ arg = w := by
  rw [← hop, ← harg]
  exact (BitVec.extractLsb'_append_extractLsb'_eq_extractLsb' rfl).trans BitVec.extractLsb'_eq_self

/-- The same with the operand bits cut in two, as `OBS_READ` has them. -/
theorem portWord_eq_of_nibbles {w : OpWord} {op : BitVec 3} {hi lo : BitVec 4} (hop : portOp w = op)
    (hhi : w.extractLsb' 4 4 = hi) (hlo : w.extractLsb' 0 4 = lo) : op ++ hi ++ lo = w := by
  have hcode : portOp w ++ w.extractLsb' 4 4 = w.extractLsb' 4 7 :=
    BitVec.extractLsb'_append_extractLsb'_eq_extractLsb' rfl
  rw [← hop, ← hhi, ← hlo, hcode]
  exact (BitVec.extractLsb'_append_extractLsb'_eq_extractLsb' rfl).trans BitVec.extractLsb'_eq_self

theorem decodePort_encodeWord_push (b : Byte) (side : Side) :
    decodePort (encodeWord (.push b)) side = some (.push b) := by
  simp [encodeWord, decodePort]

theorem decodePort_encodeWord_avail (side : Side) : decodePort (encodeWord .avail) side = some .avail := by
  have hop : portOp (encodeWord .avail) = 0b001#3 := portOp_append _ _
  have hzero : portArg (encodeWord .avail) = 0#8 := portArg_append _ _
  simp [decodePort, hop, hzero]

theorem decodePort_encodeWord_obsRead (n : BitVec 4) (side : Side) :
    decodePort (encodeWord (.obsRead n)) side = some (.obsRead n) := by
  have hop : portOp (encodeWord (.obsRead n)) = 0b010#3 := BitVec.extractLsb'_append_eq_of_le (by decide)
  have hzero : (encodeWord (.obsRead n)).extractLsb' 4 4 = 0#4 := BitVec.extractLsb'_append_eq_of_le (by decide)
  have hport : (encodeWord (.obsRead n)).extractLsb' 0 4 = n := BitVec.extractLsb'_append_eq_right
  simp [decodePort, hop, hzero, hport]

theorem decodePort_encodeWord_resetCfg (ch : Option ChannelId) (pin : PinId) (side : Side) :
    decodePort (encodeWord (.resetCfg ch pin)) side = some (.resetCfg side.ch side.pin) := by
  have hop : portOp (encodeWord (.resetCfg ch pin)) = 0b011#3 := portOp_append _ _
  have hzero : portArg (encodeWord (.resetCfg ch pin)) = 0#8 := portArg_append _ _
  simp [decodePort, hop, hzero]

theorem decodePort_encode {i : Instr} (hport : i.format = .port) :
    decodePort (encodeWord i) (encodeSide i) = some i := by
  cases i with
  | push b => exact decodePort_encodeWord_push b _
  | avail => exact decodePort_encodeWord_avail _
  | obsRead n => exact decodePort_encodeWord_obsRead n _
  | resetCfg ch pin => exact decodePort_encodeWord_resetCfg ch pin _
  | _ => nomatch hport

/-- R73: a word that has an operation is that operation's word. -/
theorem encodeWord_of_decodePort {w : OpWord} {side : Side} {i : Instr} (h : decodePort w side = some i) :
    i.wf = true ∧ i.format = .port ∧ encodeWord i = w := by
  unfold decodePort at h
  split_ifs at h with hpush havail harg hobs hzero hreset harg
  · cases h
    exact ⟨rfl, rfl, portWord_eq hpush rfl⟩
  · cases h
    exact ⟨rfl, rfl, portWord_eq havail harg⟩
  · cases h
    exact ⟨rfl, rfl, portWord_eq_of_nibbles hobs hzero rfl⟩
  · cases h
    exact ⟨rfl, rfl, portWord_eq hreset harg⟩

/-! ### Both formats -/

theorem decode_encode {i : Instr} (hwf : i.wf = true) : decode i.format (encodeWord i) (encodeSide i) = some i := by
  cases hf : i.format with
  | key => exact congrArg some (decodeKey_encodeWord hf hwf)
  | port => exact decodePort_encode hf

/-- Settles O7: `decode_encode` one way; the other way `decodeKey_eq_iff` for keys and `encodeWord_of_decodePort` for
port words. -/
theorem decodeEncodeAgree : Obligations.DecodeEncodeAgree := by
  refine ⟨fun i hwf => decode_encode hwf, fun k side => ?_, fun w side i h => encodeWord_of_decodePort h⟩
  obtain ⟨hkey, hwf, hword⟩ := (decodeKey_eq_iff k _).mp rfl
  exact ⟨decodeKey k, rfl, hwf, hkey, hword.symm⟩

end Sys2Proof

/-! ## The action map and the port words, read off the words (R64, R65, R73) -/

namespace Sys2Proof

/-! ### The masks of R65 -/

section

variable (st : ParserState) (last : Bool) (b : Byte)

/-- A mask acts on the three fields of a key apart. -/
theorem keyWord_and (m₁ : BitVec 2) (m₂ : BitVec 1) (m₃ : Byte) :
    keyWord st last b &&& (m₁ ++ m₂ ++ m₃) = (st.code &&& m₁) ++ (BitVec.ofBool last &&& m₂) ++ (b &&& m₃) := by
  rw [keyWord, BitVec.and_append, BitVec.and_append]

/-- The mask of the rows that fix the state and the byte. -/
theorem keyWord_and_0x6FF : keyWord st last b &&& 0x6FF#11 = keyWord st false b := by
  have h := keyWord_and st last b (BitVec.allOnes 2) 0#1 (BitVec.allOnes 8)
  rwa [BitVec.and_allOnes, BitVec.and_zero, BitVec.and_allOnes] at h

/-- The mask of the rows that fix the state alone. -/
theorem keyWord_and_0x600 : keyWord st last b &&& 0x600#11 = keyWord st false 0#8 := by
  have h := keyWord_and st last b (BitVec.allOnes 2) 0#1 0#8
  rwa [BitVec.and_allOnes, BitVec.and_zero, BitVec.and_zero] at h

/-- The mask of the rows that fix the state and `LAST`. -/
theorem keyWord_and_0x700 : keyWord st last b &&& 0x700#11 = keyWord st last 0#8 := by
  have h := keyWord_and st last b (BitVec.allOnes 2) (BitVec.allOnes 1) 0#8
  rwa [BitVec.and_allOnes, BitVec.and_allOnes, BitVec.and_zero] at h

end

/-! ### The action map by match, mask and priority (R65) -/

/-- At most one row wins a word: of two that match, each would need the lower priority number. -/
theorem rowWins_unique {table : List TableRow} {w : OpWord} {op op' : Op} (h : rowWins table w op = true)
    (h' : rowWins table w op' = true) : op = op' := by
  simp only [rowWins, List.any_eq_true, Bool.and_eq_true, decide_eq_true_eq, List.all_eq_true, Bool.or_eq_true,
    Bool.not_eq_true'] at h h'
  obtain ⟨r, hr, ⟨rfl, hrw⟩, hrbest⟩ := h
  obtain ⟨q, hq, ⟨rfl, hqw⟩, hqbest⟩ := h'
  by_cases heq : q = r
  · rw [heq]
  · have hrq : r.priority < q.priority := by simpa [heq, hqw] using hrbest q hq
    have hqr : q.priority < r.priority := by simpa [Ne.symm heq, hrw] using hqbest r hr
    omega

/-- The family `TableRow` as one statement: in the table of its format an instruction's own row wins its word. -/
theorem rowWins_encodeWord (i : Instr) (hwf : i.wf = true) : rowWins (tableOf i.format) (encodeWord i) i.op = true := by
  cases i with
  | startDetect last => exact Laws.TableRow.startDetect last hwf
  | noiseDiscard last b => exact Laws.TableRow.noiseDiscard last b hwf
  | dataStore b => exact Laws.TableRow.dataStore b hwf
  | dataStoreLast b => exact Laws.TableRow.dataStoreLast b hwf
  | endOk last => exact Laws.TableRow.endOk last hwf
  | endFail last b => exact Laws.TableRow.endFail last b hwf
  | illegalState last b => exact Laws.TableRow.illegalState last b hwf
  | push b => exact Laws.TableRow.push b hwf
  | avail => exact Laws.TableRow.avail hwf
  | obsRead n => exact Laws.TableRow.obsRead n hwf
  | resetCfg ch pin => exact Laws.TableRow.resetCfg ch pin hwf

theorem rowWins_keyTable_iff (k : OpWord) (op : Op) : rowWins keyTable k op = true ↔ op = (decodeKey k).op := by
  obtain ⟨hkey, hwf, hword⟩ := (decodeKey_eq_iff k _).mp rfl
  have hown : rowWins keyTable k (decodeKey k).op = true := by
    simpa only [hkey, ← hword, tableOf] using rowWins_encodeWord (decodeKey k) hwf
  exact ⟨fun h => rowWins_unique h hown, fun h => h ▸ hown⟩

/-- Settles O5: on a key cut into its fields each mask keeps some fields (`keyWord_and_0x6FF` and its kin), each
action's word is a key of its state (`decodeKey_eq_iff`), and the winning row is `rowWins_keyTable_iff`. -/
theorem keyActionMap : Obligations.KeyActionMap := by
  intro k
  obtain ⟨st, last, b, rfl⟩ := exists_keyWord_eq k
  have hstart : 0x00A#11 = keyWord .awaitingStart false Config.startByte := rfl
  have hnoise : 0x000#11 = keyWord .awaitingStart false 0#8 := rfl
  have hstore : 0x200#11 = keyWord .awaitingData false 0#8 := rfl
  have hlast : 0x300#11 = keyWord .awaitingData true 0#8 := rfl
  have hok : 0x40D#11 = keyWord .awaitingEnd false Config.endByte := rfl
  have hfail : 0x400#11 = keyWord .awaitingEnd false 0#8 := rfl
  have hillegal : 0x600#11 = keyWord .reserved false 0#8 := rfl
  simp only [decodeKey_eq_iff, keyWord_and_0x6FF, keyWord_and_0x600, keyWord_and_0x700]
  rw [hstart, hnoise, hstore, hlast, hok, hfail, hillegal]
  simp only [keyLast_keyWord, keyByte_keyWord, encodeWord, Instr.format, Instr.wf, bne_iff_ne, ne_eq, keyWord_inj]
  refine ⟨by simp, ?noise, by simp, by simp, by simp, ?fail, by simp, rowWins_keyTable_iff _⟩
  case noise => tauto
  case fail => tauto

/-! ### The port words by number (R73) -/

theorem encodeWord_push (b : Byte) : encodeWord (.push b) = b.setWidth 11 :=
  (BitVec.setWidth_eq_append (by decide)).symm

/-- The numbers of the port words: `PUSH` has 0x000 to 0x0FF, `AVAIL` 0x100, `OBS_READ` 0x200 to 0x20F and `RESET_CFG`
0x300. -/
theorem toNat_encodeWord_of_port {i : Instr} (hport : i.format = .port) :
    (encodeWord i).toNat ≤ 0x100
      ∨ (0x200 ≤ (encodeWord i).toNat ∧ (encodeWord i).toNat ≤ 0x20F)
      ∨ (encodeWord i).toNat = 0x300 := by
  cases i with
  | push b =>
    rw [encodeWord_push]
    bv_omega
  | avail => exact .inl (by decide)
  | obsRead n =>
    have hn : ∀ n, 0x200 ≤ (encodeWord (.obsRead n)).toNat ∧ (encodeWord (.obsRead n)).toNat ≤ 0x20F := by decide
    exact .inr (.inl (hn n))
  | resetCfg ch pin => exact .inr (.inr rfl)
  | _ => nomatch hport

theorem encodeWord_obsRead (n : BitVec 4) : encodeWord (.obsRead n) = 0x200#11 ||| n.setWidth 11 := by
  revert n
  decide

/-- Settles O6: each word named is its operation's word, and a word with an operation is one of those
(`encodeWord_of_decodePort`, `toNat_encodeWord_of_port`). -/
theorem portWordMap : Obligations.PortWordMap := by
  intro side
  refine ⟨fun b => ?_, decodePort_encodeWord_avail side, fun n => ?_, decodePort_encodeWord_resetCfg none 0 side, ?_⟩
  · exact encodeWord_push b ▸ decodePort_encodeWord_push b side
  · exact encodeWord_obsRead n ▸ decodePort_encodeWord_obsRead n side
  · intro w hw
    refine Option.eq_none_iff_forall_ne_some.mpr fun i hi => ?_
    obtain ⟨-, hport, rfl⟩ := encodeWord_of_decodePort hi
    have := toNat_encodeWord_of_port hport
    omega

/-- Settles O8: each of the words is its operation's encoding, so it decodes to the operation. -/
theorem sampleWordsDecode : Obligations.SampleWordsDecode :=
  ⟨decodeKey_encodeWord (i := .startDetect false) rfl rfl,
    decodeKey_encodeWord (i := .noiseDiscard false 0x0D#8) rfl rfl,
    decodeKey_encodeWord (i := .dataStore 0x0A#8) rfl rfl,
    decodeKey_encodeWord (i := .dataStoreLast 0x0A#8) rfl rfl,
    decodeKey_encodeWord (i := .endOk false) rfl rfl,
    decodeKey_encodeWord (i := .endFail false 0x0A#8) rfl rfl,
    decodeKey_encodeWord (i := .illegalState false 0x00#8) rfl rfl,
    decodePort_encode (i := .push 0xFF#8) rfl,
    decodePort_encode (i := .avail) rfl,
    decodePort_encode (i := .obsRead 5#4) rfl,
    decodePort_encode (i := .resetCfg (some 1) 2) rfl⟩

end Sys2Proof

/-! ## The key the parser forms, port turns, and the width of `COUNT` (R61, R64, R67, R72, R73) -/

namespace Sys2Proof.Machine

theorem State.keyFor_stateCode (s : State) (b : Byte) : (s.keyFor b).extractLsb' 9 2 = s.st.code := by
  have h := congrArg ParserState.code (keyState_keyWord s.st (lastFlag s.cursor) b)
  rwa [keyState, ParserState.code_ofCode] at h

theorem State.keyFor_last (s : State) (b : Byte) : (s.keyFor b).getLsbD 8 = decide (s.cursor = 9#4) :=
  keyLast_keyWord s.st (lastFlag s.cursor) b

/-- R64: under R25 `CURSOR` is 9 in `AwaitingData` alone. -/
theorem ParserInv.awaitingData_of_cursor_eq {s : State} (h : ParserInv s) (hc : s.cursor = 9#4) :
    s.st = .awaitingData := by
  obtain ⟨hres, hstart, -, hend⟩ := h
  cases hst : s.st with
  | awaitingStart =>
    obtain ⟨h0, -⟩ | ⟨h10, -⟩ := hstart hst
    · simp [h0] at hc
    · simp [h10] at hc
  | awaitingData => rfl
  | awaitingEnd => simp [(hend hst).1] at hc
  | reserved => exact absurd hst hres

/-- Settles O4: the key's fields are those it was formed from, and R25 gives the two facts of the invariant. -/
theorem keyHasStateLastAndByte : Obligations.KeyHasStateLastAndByte := by
  refine ⟨rfl, rfl, rfl, rfl, fun s b => ⟨s.keyFor_stateCode b, s.keyFor_last b, keyByte_keyWord .., ?_⟩⟩
  rintro ⟨-, hparser, -⟩
  refine ⟨fun hcode => hparser.1 ?_, fun hlast => ?_⟩
  · rw [← ParserState.ofCode_code s.st, hcode]
    rfl
  · have hc : s.cursor = 9#4 := of_decide_eq_true ((s.keyFor_last b).symm.trans hlast)
    exact ⟨hparser.awaitingData_of_cursor_eq hc, hc⟩

/-! ### Port turns (R72, R73) -/

theorem State.fetch_of_port {s : State} {w : OpWord} {side : Side} {rest : List Turn}
    (h : s.stim = .port w side :: rest) : s.fetch = State.portTurn { s with stim := rest } w side := by
  simp [State.fetch, h]

/-- Settles O10: the turn fetches the decoded operation. -/
theorem stepRunsPortWord : Obligations.StepRunsPortWord := by
  intro s w side rest i hstim hdec
  refine step_of_run ?_
  rw [State.fetch_of_port hstim, State.portTurn, hdec]

/-- Settles O9: the turn settles in a refusal, which sets the mark and what it returns, and nothing else. -/
theorem reservedPortWordIsRefused : Obligations.ReservedPortWordIsRefused := by
  intro s w side rest hstim hdec
  have hfetch : s.fetch = .settled (State.quiet { s with stim := rest }).refuseOp := by
    rw [State.fetch_of_port hstim, State.portTurn, hdec]
  exact ⟨_, step_of_settled hfetch, rfl, rfl, rfl, rfl, rfl, ⟨rfl, rfl, rfl, rfl, rfl, rfl, rfl⟩,
    ⟨rfl, rfl, fun _ => rfl⟩, ⟨rfl, rfl⟩, ⟨rfl, rfl⟩⟩

/-! ### The width of `COUNT` (R67) -/

theorem countWidth_le_iff (d w : Nat) : countWidth d ≤ w ↔ d < 2 ^ w := by
  unfold countWidth
  split
  · simp [*]
  · rename_i hd
    rw [Nat.succ_le_iff, Nat.log2_lt hd]

/-- Settles O26: `countWidth_le_iff` holds of the width itself and of every other, and the bound on `COUNT` is part of
the invariant. -/
theorem countWidthIsLeast : Obligations.CountWidthIsLeast := by
  refine ⟨fun d => ⟨(countWidth_le_iff d _).mp le_rfl, fun w => (countWidth_le_iff d w).mpr⟩, fun s h => ?_⟩
  obtain ⟨-, -, -, hcount, -⟩ := h
  exact hcount

end Sys2Proof.Machine

/-! ## The status word and the event word (R66, R69, R70) -/

namespace Sys2Proof.Machine

/-! ### The fields of the status word (R66) -/

theorem State.status_fields (s : State) :
    s.status.extractLsb' 0 2 = s.st.code ∧ s.status.extractLsb' 2 4 = s.cursor
    ∧ s.status.extractLsb' 8 3 = s.cfgErr ∧ s.status.extractLsb' 14 2 = 0#2 := by
  simp (disch := decide) only [State.status, BitVec.extractLsb'_append_eq_right, BitVec.extractLsb'_append_eq_of_le,
    Nat.reduceSub, BitVec.extractLsb'_eq_self, and_self]

theorem State.status_flags (s : State) :
    s.status.getLsbD 6 = s.ovr ∧ s.status.getLsbD 7 = s.run ∧ s.status.getLsbD 11 = s.enN.driven
    ∧ s.status.getLsbD 12 = s.enN.level ∧ s.status.getLsbD 13 = s.fifoNe := by
  simp only [State.status, BitVec.getLsbD_append]
  simp

theorem Line.driven_eq (l : Line) : l.driven = decide (l ≠ .z) := by
  cases l <;> rfl

theorem Line.level_eq (l : Line) : l.level = decide (l = .high) := by
  cases l <;> rfl

/-- R32: under the lifecycle facts the line is driven high with `RUN` 1 and not driven with `RUN` 0. -/
theorem driven_and_level_of_lifecycleInv {s : State} (h : LifecycleInv s) :
    s.enN.driven = s.run ∧ s.enN.level = s.run := by
  obtain ⟨hon, hoff⟩ := h
  cases hr : s.run with
  | true =>
    obtain ⟨-, hen, -⟩ := hon hr
    exact hen ▸ ⟨rfl, rfl⟩
  | false =>
    obtain ⟨-, hen, -⟩ := hoff hr
    exact hen ▸ ⟨rfl, rfl⟩

theorem State.status_fresh_construct (s : State) (ch : Option ChannelId) (pin : PinId) (mask : Nat) :
    (s.fresh.construct ch pin mask).status = 0x1880#16 := by
  simp [State.status, State.fifoNe, State.count, Line.level, Line.driven, ParserState.code]

theorem State.status_fresh_raiseConfigError (s : State) (code : BitVec 3) :
    (s.fresh.raiseConfigError code).status = code.setWidth 16 <<< 8 := by
  have hword : ∀ c : BitVec 3, 0#2 ++ 0#1 ++ 0#1 ++ 0#1 ++ c ++ 0#1 ++ 0#1 ++ 0#4 ++ 0#2 = c.setWidth 16 <<< 8 := by
    decide
  exact hword code

/-- Settles O35: the fields and flags of the word, the lifecycle facts for bits 11 and 12, and the two outcomes of a
construction. -/
theorem statusWordLayout : Obligations.StatusWordLayout := by
  refine ⟨fun s => ?_, fun s t ch pin h => ?_⟩
  · obtain ⟨hst, hcursor, herr, hzero⟩ := s.status_fields
    obtain ⟨hovr, hrun, hdriven, hlevel, hne⟩ := s.status_flags
    refine ⟨hst, hcursor, hovr, hrun, herr, hdriven.trans (Line.driven_eq _), hlevel.trans (Line.level_eq _), hne,
      hzero, ?_⟩
    rintro ⟨-, -, -, -, hlife, -⟩
    obtain ⟨hd, hl⟩ := driven_and_level_of_lifecycleInv hlife
    exact ⟨hdriven.trans hd, hlevel.trans hl⟩
  · cases (exec_resetCfg s ch pin).symm.trans h
    split
    · exact ⟨fun _ => State.status_fresh_construct .., nofun⟩
    · exact ⟨nofun, fun _ => State.status_fresh_raiseConfigError ..⟩

/-! ### The event word (R69, R70) -/

theorem Evt.kind_eq_zero_iff (e : Evt) : e = .none ↔ e.kind = 0b00#2 := by
  cases e <;> simp [Evt.kind]

theorem Evt.kind_eq_one_iff (e : Evt) : (∃ p, e = .success p) ↔ e.kind = 0b01#2 := by
  cases e <;> simp [Evt.kind]

theorem Evt.kind_eq_two_iff (e : Evt) : e = .failure ↔ e.kind = 0b10#2 := by
  cases e <;> simp [Evt.kind]

theorem Evt.kind_ne_three (e : Evt) : e.kind ≠ 0b11#2 := by
  cases e <;> simp [Evt.kind]

theorem Evt.payloadWord_eq_none {e : Evt} (h : e.kind ≠ 0b01#2) : e.payloadWord = Option.none := by
  cases e with
  | success p => exact absurd rfl h
  | none | failure => rfl

/-- R70: bytes packed are the digits of a number in base 256, the first byte the lowest. -/
theorem packCells_map_some (p : List Byte) : packCells (p.map some) = some (Nat.ofDigits 256 (p.map BitVec.toNat)) := by
  induction p with
  | nil => rfl
  | cons b p ih => simp [packCells, ih, Nat.ofDigits_cons]

theorem Evt.payloadWord_success_bytes (p : List Byte) :
    (Evt.success (p.map some)).payloadWord = some (BitVec.ofNat 80 (Nat.ofDigits 256 (p.map BitVec.toNat))) := by
  simp [Evt.payloadWord, packCells_map_some]

/-- The digit at place `k` is the byte `k`. -/
theorem extractLsb'_ofDigits_bytes {n k : Nat} {p : List Byte} (hn : p.length * 8 ≤ n) (hk : k < p.length) :
    (BitVec.ofNat n (Nat.ofDigits 256 (p.map BitVec.toNat))).extractLsb' (8 * k) 8 = p[k] := by
  have hbyte : ∀ d ∈ p.map BitVec.toNat, d < 256 := by
    simp only [List.mem_map]
    rintro _ ⟨b, -, rfl⟩
    exact b.isLt
  have hlt : Nat.ofDigits 256 (p.map BitVec.toNat) < 2 ^ n := by
    calc Nat.ofDigits 256 (p.map BitVec.toNat) < 256 ^ p.length := by
          simpa using Nat.ofDigits_lt_base_pow_length (by decide) hbyte
      _ = 2 ^ (8 * p.length) := (Nat.pow_mul 2 8 p.length).symm
      _ ≤ 2 ^ n := Nat.pow_le_pow_right (by decide) (by omega)
  apply BitVec.eq_of_toNat_eq
  rw [BitVec.extractLsb'_toNat, BitVec.toNat_ofNat, Nat.mod_eq_of_lt hlt, Nat.shiftRight_eq_div_pow, Nat.pow_mul]
  change Nat.ofDigits 256 _ / 256 ^ k % 256 = _
  have hdrop : (p.map BitVec.toNat).drop k = p[k].toNat :: (p.map BitVec.toNat).drop (k + 1) := by
    rw [List.drop_eq_getElem_cons (by simpa using hk), List.getElem_map]
  rw [Nat.ofDigits_div_pow_eq_ofDigits_drop k (by decide) _ hbyte, hdrop, Nat.ofDigits_cons, Nat.add_mul_mod_self_left,
    Nat.mod_eq_of_lt p[k].isLt]

/-- Settles O36: the kinds by the event's constructors; for a payload of ten bytes the word is the packed number, whose
digits are the bytes (`extractLsb'_ofDigits_bytes`). -/
theorem eventWordLayout : Obligations.EventWordLayout := by
  refine ⟨fun e => ⟨e.kind_eq_zero_iff, e.kind_eq_one_iff, e.kind_eq_two_iff, e.kind_ne_three,
    Evt.payloadWord_eq_none⟩, fun p hp => ⟨_, Evt.payloadWord_success_bytes p, fun k hk => ?_⟩⟩
  have hkp : k < p.length := hp ▸ hk
  rw [extractLsb'_ofDigits_bytes (by omega) hkp, List.getElem?_eq_getElem hkp]

end Sys2Proof.Machine

/-! ## The port operations on the FIFO, the overrun flag and the waiting parser (R80, R81, R83 to R85) -/

namespace Sys2Proof.Machine

/-! ### Words and frames -/

/-- R73: where an operation's word decodes to it, no other word does. -/
theorem decodePort_eq_some_iff {i : Instr} {side : Side} (hi : decodePort (encodeWord i) side = some i) (w : OpWord) :
    decodePort w side = some i ↔ w = encodeWord i := by
  refine ⟨fun h => ?_, fun h => h ▸ hi⟩
  obtain ⟨-, -, hw⟩ := encodeWord_of_decodePort h
  exact hw.symm

/-- A change of the schedule and of what is returned, with no event, is outside every part of the state. -/
theorem State.frame_of_outputs (s : State) (l : List Turn) (r : Ret) :
    let t := (State.quiet { s with stim := l }).returning r
    SameConfig s t ∧ SameParser s t ∧ SameInput s t ∧ SameRecords s t ∧ Silent s t :=
  ⟨⟨rfl, rfl, rfl, rfl, rfl, rfl, rfl⟩, ⟨rfl, rfl, fun _ => rfl⟩, ⟨rfl, rfl⟩, ⟨rfl, rfl, rfl⟩, ⟨rfl, rfl⟩⟩

@[simp] theorem State.quiet_count (s : State) : s.quiet.count = s.count := rfl

/-- A push from cleared outputs reaches the FIFO and `OVR` alone. -/
theorem State.frame_of_push (s : State) (b : Byte) :
    let t := s.quiet.pushFifo b
    SameConfig s t ∧ SameParser s t ∧ SameRecords s t ∧ Silent s t := by
  refine ⟨⟨?_, ?_, ?_, ?_, ?_, ?_, ?_⟩, ⟨?_, ?_, fun k => ?_⟩, ⟨?_, ?_, ?_⟩, ⟨?_, ?_⟩⟩ <;> simp

theorem BlockInv.fifo_eq_nil {s : State} (h : BlockInv s) (hr : s.run = false) : s.fifo = [] := by
  obtain ⟨-, -, -, -, ⟨-, hoff⟩, -⟩ := h
  obtain ⟨-, -, -, -, -, -, -, -, hfifo, -⟩ := hoff hr
  exact hfifo

/-! ### `PUSH` (R80, R81, R84) -/

/-- Settles O22: the word is the operation's own, and each outcome of `State.pushFifo_cases` is one of the three. -/
theorem pushResult : Obligations.PushResult := by
  refine ⟨fun w side b => ?_, fun s b => ?_⟩
  · exact encodeWord_push b ▸ decodePort_eq_some_iff (decodePort_encodeWord_push b side) w
  obtain ⟨hcfg, hparser, hrec, hsilent⟩ := s.frame_of_push b
  refine ⟨_, exec_push s b, by simp, by simp, hcfg, hparser, hrec, hsilent, ?_⟩
  obtain ⟨hoff, h⟩ | ⟨hon, hroom, h⟩ | ⟨hon, hfull, h⟩ := s.quiet.pushFifo_cases b
  · rw [State.quiet_run] at hoff
    simp [h, hoff]
  · rw [State.quiet_run] at hon
    refine ⟨by simp [hon], fun _ _ => ?_, fun _ hfull => absurd hroom (Nat.not_lt.mpr hfull)⟩
    simp [h, State.fifoNe, State.count]
  · rw [State.quiet_run] at hon
    refine ⟨by simp [hon], fun _ hroom => absurd hroom (Nat.not_lt.mpr hfull), fun _ _ => ?_⟩
    simp [h, State.count]

/-- Settles O24: `selected` asks for `RUN`, the lifecycle facts have the FIFO empty, and a push is the first outcome of
`pushResult`. -/
theorem noReaderNoInput : Obligations.NoReaderNoInput := by
  intro s hr
  refine ⟨s.selected_eq_none_iff.mpr (.inl hr), fun h => congrArg List.length (h.fifo_eq_nil hr), fun b => ?_⟩
  obtain ⟨-, hpush⟩ := pushResult
  obtain ⟨t, ht, hret, hstim, hcfg, hparser, hrec, hsilent, hoff, -⟩ := hpush s b
  obtain ⟨hfifo, hovr⟩ := hoff hr
  exact ⟨t, ht, hret, hstim, hcfg, hparser, ⟨hfifo, hovr⟩, hrec, hsilent⟩

/-! ### `OVR` (R27, R81) -/

/-- A parser step keeps `OVR` where its action does. -/
theorem State.consume_ovr (s : State) (i : Instr) {act : State → State} (hact : ∀ t, (act t).ovr = t.ovr) :
    (s.consume i act).ovr = s.ovr := by
  obtain ⟨-, h⟩ | ⟨-, h⟩ := s.consume_cases i act
  · rw [h, hact, State.quiet_ovr]
  · rw [h, State.quiet_ovr]

theorem State.pushFifo_ovr_iff (s : State) (b : Byte) :
    (s.pushFifo b).ovr = true ↔ s.ovr = true ∨ (s.run = true ∧ s.params.fifoDepth ≤ s.count) := by
  obtain ⟨hoff, h⟩ | ⟨-, hroom, h⟩ | ⟨hon, hfull, h⟩ := s.pushFifo_cases b
  · simp [h, hoff]
  · simp [h, hroom]
  · simp [h, hon, hfull]

theorem ovr_of_exec_resetCfg {s t : State} {ch : Option ChannelId} {pin : PinId}
    (h : exec (.resetCfg ch pin) s = .next t) : t.ovr = false := by
  cases (exec_resetCfg s ch pin).symm.trans h
  split
  · rfl
  · rfl

/-- Only `PUSH` and `RESET_CFG` write `OVR`. -/
theorem ovr_of_exec {i : Instr} {s t : State} (h : exec i s = .next t) (hreset : i.op ≠ .resetCfg)
    (hpush : i.op ≠ .push) : t.ovr = s.ovr := by
  cases i with
  | startDetect last => cases (exec_startDetect s last).symm.trans h; exact s.consume_ovr _ fun _ => rfl
  | noiseDiscard last b => cases (exec_noiseDiscard s last b).symm.trans h; exact s.consume_ovr _ fun _ => rfl
  | dataStore b =>
    cases (exec_dataStore s b).symm.trans h
    refine s.consume_ovr _ fun t => ?_
    split
    · rfl
    · rfl
  | dataStoreLast b => cases (exec_dataStoreLast s b).symm.trans h; exact s.consume_ovr _ fun _ => rfl
  | endOk last => cases (exec_endOk s last).symm.trans h; exact s.consume_ovr _ fun _ => rfl
  | endFail last b => cases (exec_endFail s last b).symm.trans h; exact s.consume_ovr _ fun _ => rfl
  | illegalState last b => cases (exec_illegalState s last b).symm.trans h; exact s.consume_ovr _ fun _ => rfl
  | push b => exact absurd rfl hpush
  | avail => cases (exec_avail s).symm.trans h; rfl
  | obsRead n =>
    cases (exec_obsRead s n).symm.trans h
    split
    · rfl
    · rfl
  | resetCfg ch pin => exact absurd rfl hreset

/-- Settles O23: the overrun is the third outcome of `pushResult`; over the operations, `RESET_CFG` clears `OVR`, `PUSH`
obeys `State.pushFifo_ovr_iff` and the others keep it (`ovr_of_exec`). -/
theorem overrunIsSticky : Obligations.OverrunIsSticky := by
  refine ⟨fun s b hr hfull => ?_, fun i s t h => ⟨fun hi => ?_, fun hi => ?_⟩⟩
  · obtain ⟨-, hpush⟩ := pushResult
    obtain ⟨t, ht, hret, hstim, hcfg, hparser, hrec, hsilent, -, -, hlost⟩ := hpush s b
    obtain ⟨hfifo, hcount, hovr⟩ := hlost hr hfull.ge
    exact ⟨t, ht, hfifo, hcount, hovr, hret, hstim, hcfg, hparser, hrec, hsilent⟩
  · cases i with
    | resetCfg ch pin => exact ovr_of_exec_resetCfg h
    | _ => nomatch hi
  · by_cases hpush : i.op = .push
    · cases i with
      | push b =>
        cases (exec_push s b).symm.trans h
        simpa [Instr.op] using s.quiet.pushFifo_ovr_iff b
      | _ => nomatch hpush
    · simp [ovr_of_exec h hi hpush, hpush]

/-! ### `AVAIL` (R83) -/

/-- Settles O25: the word is the operation's own, and the answer is an output alone. -/
theorem availResult : Obligations.AvailResult := by
  refine ⟨fun w side => decodePort_eq_some_iff (decodePort_encodeWord_avail side) w, fun s => ?_⟩
  exact ⟨_, exec_avail s, rfl, fun h hr => congrArg List.length (h.fifo_eq_nil hr), rfl, s.frame_of_outputs s.stim _⟩

/-! ### The waiting parser (R85) -/

theorem State.enabled_iff (s : State) : s.enabled = true ↔ s.run = true ∧ 0 < s.count := by
  simp [State.enabled, State.fifoNe]

/-- A turn of the parser, where it is not enabled, is taken off the schedule and does no more. -/
theorem State.fetch_of_not_enabled {s : State} (h : s.enabled = false)
    (hturn : s.stim = [] ∨ (∃ rest, s.stim = .parser :: rest) ∨ (∃ rest, s.stim = .drain :: rest)) :
    s.fetch = .settled (State.quiet { s with stim := s.stim.tail }) := by
  have hsel : s.selected = none := by
    simpa [h] using s.selected_isSome
  obtain hnil | ⟨rest, hparser⟩ | ⟨rest, hdrain⟩ := hturn
  · have hself : { s with stim := s.stim.tail } = s := by
      rw [hnil, List.tail_nil, ← hnil]
    rw [hself]
    simp [State.fetch, State.parserTurn, hnil, hsel]
  · simp [State.fetch, State.parserTurn, hparser, hsel]
  · simp [State.fetch, hdrain, h]

/-- Settles O12: the parser has a step exactly where it is enabled, a turn without one settles
(`State.fetch_of_not_enabled`), and a push with room leaves `RUN` 1 and the FIFO not empty (`pushResult`). -/
theorem parserEnabledExactly : Obligations.ParserEnabledExactly := by
  refine fun s => ⟨s.selected_isSome ▸ s.enabled_iff, fun hwait hturn => ?_, fun hr hc hdepth b => ?_⟩
  · have hoff : s.enabled = false := Bool.eq_false_iff.mpr fun h => hwait (s.enabled_iff.mp h)
    exact ⟨_, step_of_settled (State.fetch_of_not_enabled hoff hturn), rfl, rfl, s.frame_of_outputs s.stim.tail .none⟩
  · obtain ⟨-, hpush⟩ := pushResult
    obtain ⟨t, ht, -, -, hcfg, -, -, -, -, hroom, -⟩ := hpush s b
    obtain ⟨-, -, -, hne⟩ := hroom hr (by omega)
    have hrun : t.run = true := hcfg.run.trans hr
    exact ⟨t, ht, by simp [State.selected_isSome, State.enabled, hrun, hne]⟩

end Sys2Proof.Machine

/-! ## The parser's actions: what a key operation can leave, and the effect of each (R90 to R99, R101, R102) -/

namespace Sys2Proof.Machine

/-! ### What a key operation can leave -/

/-- A running parser runs the action that the FIFO's head byte fires. -/
theorem State.consume_of_fires {s : State} {b : Byte} {rest : List Byte} {i : Instr} {act : State → State}
    (hr : s.run = true) (hf : s.fifo = b :: rest) (hi : s.Fires b i) : s.consume i act = act s.quiet := by
  have hs : s.selected = some i := by rw [s.selected_of_fifo hr hf, (decodeKey_keyFor_eq_iff s b i).mpr hi]
  simp [State.consume, hs]

/-- Everything a key operation can leave: nothing done where it is not selected, the fault, a silent write of the
parser's own state with the pop, or, in `AwaitingEnd` alone, one event with the pop. -/
inductive KeyOutcome (s : State) (i : Instr) : State → Prop
  | idle (hs : s.selected ≠ some i) : KeyOutcome s i s.quiet
  | fault (hst : s.st ≠ .awaitingEnd) : KeyOutcome s i (s.quiet.recordFault .illegalState)
  | write (hst : s.st ≠ .awaitingEnd) (st : ParserState) (cursor : BitVec 4) (buf : Memory) :
      KeyOutcome s i { s.quiet.popFifo with st := st, cursor := cursor, buf := buf }
  | emit (hr : s.run = true) (hst : s.st = .awaitingEnd) (e : Evt) (he : e = .failure ∨ e = .success s.buf.cells) :
      KeyOutcome s i (s.quiet.popFifo.emit e).endFrame

/-- A parser step has one of these outcomes where its action has, on the states in which the action fires. -/
theorem State.consume_outcome {s : State} {i : Instr} {act : State → State}
    (hact : ∀ b, s.run = true → s.Fires b i → KeyOutcome s i (act s.quiet)) : KeyOutcome s i (s.consume i act) := by
  obtain ⟨hs, heq⟩ | ⟨hs, heq⟩ := s.consume_cases i act
  · obtain ⟨hr, b, hb⟩ := State.fires_of_selected hs
    exact heq ▸ hact b hr hb
  · exact heq ▸ .idle hs

theorem keyOutcome_of_exec {i : Instr} {s t : State} (hi : i.format = .key) (h : exec i s = .next t) :
    KeyOutcome s i t := by
  cases i with
  | startDetect last =>
    cases (exec_startDetect s last).symm.trans h
    exact State.consume_outcome fun _ _ ⟨hst, _⟩ => .write (by simp [hst]) _ _ _
  | noiseDiscard last b =>
    cases (exec_noiseDiscard s last b).symm.trans h
    exact State.consume_outcome fun _ _ ⟨hst, _⟩ => .write (by simp [hst]) _ _ _
  | dataStore b =>
    cases (exec_dataStore s b).symm.trans h
    refine State.consume_outcome fun _ _ ⟨hst, _⟩ => ?_
    split
    · exact .write (by simp [hst]) _ _ _
    · exact .fault (by simp [hst])
  | dataStoreLast b =>
    cases (exec_dataStoreLast s b).symm.trans h
    exact State.consume_outcome fun _ _ ⟨hst, _⟩ => .write (by simp [hst]) _ _ _
  | endOk last =>
    cases (exec_endOk s last).symm.trans h
    exact State.consume_outcome fun _ hr ⟨hst, _⟩ => .emit hr hst _ (.inr rfl)
  | endFail last b =>
    cases (exec_endFail s last b).symm.trans h
    exact State.consume_outcome fun _ hr ⟨hst, _⟩ => .emit hr hst _ (.inl rfl)
  | illegalState last b =>
    cases (exec_illegalState s last b).symm.trans h
    exact State.consume_outcome fun _ _ ⟨hst, _⟩ => .fault (by simp [hst])
  | push | avail | obsRead | resetCfg => nomatch hi

/-- R91: what every key operation leaves, whatever its outcome; and it returns nothing. -/
structure ParserFrame (s t : State) : Prop where
  config      : SameConfig s t
  ovr         : t.ovr = s.ovr
  ret         : t.ret = .none
  stim        : t.stim = s.stim
  refusedOp   : t.refusedOp = s.refusedOp
  refusedPort : t.refusedPort = s.refusedPort

theorem KeyOutcome.frame {s t : State} {i : Instr} (h : KeyOutcome s i t) : ParserFrame s t := by
  cases h <;> exact ⟨⟨rfl, rfl, rfl, rfl, rfl, rfl, rfl⟩, rfl, rfl, rfl, rfl, rfl⟩

theorem parserFrame_of_exec {i : Instr} {s t : State} (hi : i.format = .key) (h : exec i s = .next t) :
    ParserFrame s t :=
  (keyOutcome_of_exec hi h).frame

/-- Settles O21: of the outcomes of a parser step, the one without a selection. -/
theorem unselectedActionDoesNothing : Obligations.UnselectedActionDoesNothing := by
  intro i s hi hs
  obtain ⟨act, h, -⟩ := exec_key_eq_consume hi s
  obtain ⟨hs', -⟩ | ⟨-, heq⟩ := s.consume_cases i act
  · exact absurd hs' hs
  · exact ⟨_, h, by simp [heq], by simp [heq], heq ▸ s.frame_of_outputs s.stim .none⟩

/-! ### `AwaitingStart` (R92, R93) -/

/-- Settles O14: `START_DETECT` fires, and its writes are those of `State.startFrame`. -/
theorem startDetectResult : Obligations.StartDetectResult := by
  refine ⟨fun k => ?_, fun s rest hr hst hf => ?_⟩
  · obtain ⟨hkey, -⟩ := keyActionMap k
    exact hkey.symm
  have ht : exec (.startDetect (lastFlag s.cursor)) s = .next s.quiet.popFifo.startFrame := by
    rw [exec_startDetect, State.consume_of_fires hr hf]
    exact ⟨hst, rfl, rfl⟩
  obtain ⟨hcfg, hovr, hret, hstim, -, -⟩ := parserFrame_of_exec rfl ht
  exact ⟨_, ht, rfl, rfl, fun k hk => Memory.read_zeroed hk, by simp [hf], hovr, hret, hstim, hcfg, ⟨rfl, rfl, rfl⟩,
    ⟨rfl, rfl⟩⟩

/-- Settles O15: `NOISE_DISCARD` fires, and pops. -/
theorem noiseDiscardResult : Obligations.NoiseDiscardResult := by
  refine ⟨fun k => ?_, fun s b rest hr hst hf hb => ?_⟩
  · obtain ⟨-, hkey, -⟩ := keyActionMap k
    exact hkey.symm
  have ht : exec (.noiseDiscard (lastFlag s.cursor) b) s = .next s.quiet.popFifo := by
    rw [exec_noiseDiscard, State.consume_of_fires hr hf]
    exact ⟨hst, rfl, rfl, hb⟩
  obtain ⟨hcfg, hovr, hret, hstim, -, -⟩ := parserFrame_of_exec rfl ht
  exact ⟨_, ht, by simp [hf], hovr, hret, hstim, hcfg, ⟨rfl, rfl, fun _ => rfl⟩, ⟨rfl, rfl, rfl⟩, ⟨rfl, rfl⟩⟩

/-! ### `AwaitingData` (R94, R95) -/

/-- Settles O16: `DATA_STORE` fires, and the branch of its meaning is that of `CURSOR`. -/
theorem dataStoreResult : Obligations.DataStoreResult := by
  refine ⟨fun k => ?_, fun s b rest hr hst hf hc => ?_, fun s b rest hr hst hf hc => ?_⟩
  · obtain ⟨-, -, hkey, -⟩ := keyActionMap k
    exact hkey.symm
  · have hlt : s.quiet.cursor.toNat < Config.payloadLen := Nat.lt_of_le_of_lt hc (by decide)
    have hne : s.cursor ≠ 9#4 := by bv_omega
    have ht : exec (.dataStore b) s = .next (s.quiet.popFifo.storeByte b) := by
      rw [exec_dataStore, State.consume_of_fires hr hf, if_pos hlt]
      exact ⟨hst, hne, rfl⟩
    have hnext : (s.cursor + 1).toNat = s.cursor.toNat + 1 := by bv_omega
    obtain ⟨hcfg, hovr, hret, hstim, -, -⟩ := parserFrame_of_exec rfl ht
    exact ⟨_, ht, Memory.read_write_same _ _ _, fun k hk => Memory.read_write_other _ _ hk, hnext, hst, by simp [hf],
      hovr, hret, hstim, hcfg, ⟨rfl, rfl, rfl⟩, ⟨rfl, rfl⟩⟩
  · have hge : ¬ s.quiet.cursor.toNat < Config.payloadLen := Nat.not_lt.mpr hc
    have hne : s.cursor ≠ 9#4 := by bv_omega
    have ht : exec (.dataStore b) s = .next (s.quiet.recordFault .illegalState) := by
      rw [exec_dataStore, State.consume_of_fires hr hf, if_neg hge]
      exact ⟨hst, hne, rfl⟩
    obtain ⟨hcfg, hovr, hret, hstim, hop, hport⟩ := parserFrame_of_exec rfl ht
    exact ⟨_, ht, rfl, hop, hport, hret, hstim, hcfg, ⟨rfl, rfl, fun _ => rfl⟩, ⟨rfl, hovr⟩, ⟨rfl, rfl⟩⟩

/-- Settles O17: `DATA_STORE_LAST` fires, and its writes are those of `State.storeLast`. -/
theorem dataStoreLastResult : Obligations.DataStoreLastResult := by
  refine ⟨fun k => ?_, fun s b rest hr hst hf hc => ?_⟩
  · obtain ⟨-, -, -, hkey, -⟩ := keyActionMap k
    exact hkey.symm
  have ht : exec (.dataStoreLast b) s = .next (s.quiet.popFifo.storeLast b) := by
    rw [exec_dataStoreLast, State.consume_of_fires hr hf]
    exact ⟨hst, hc, rfl⟩
  obtain ⟨hcfg, hovr, hret, hstim, -, -⟩ := parserFrame_of_exec rfl ht
  exact ⟨_, ht, Memory.read_write_same _ _ _, fun k hk => Memory.read_write_other _ _ hk, rfl, rfl, by simp [hf], hovr,
    hret, hstim, hcfg, ⟨rfl, rfl, rfl⟩, ⟨rfl, rfl⟩⟩

/-! ### `AwaitingEnd` (R96, R97) -/

theorem Memory.getElem?_cells (m : Memory) {k : Nat} (hk : k < 10) : m.cells[k]? = some (m.read k) := by
  rw [List.getElem?_eq_getElem (by simpa using hk), Memory.getElem_cells]

/-- Settles O18: `END_OK` fires, its payload is `Memory.cells`, and R25 has `CURSOR` 10 and the buffer full in
`AwaitingEnd`. -/
theorem endOkResult : Obligations.EndOkResult := by
  refine ⟨fun k => ?_, fun s rest hr hst hf => ?_⟩
  · obtain ⟨-, -, -, -, hkey, -⟩ := keyActionMap k
    exact hkey.symm
  have ht : exec (.endOk (lastFlag s.cursor)) s
      = .next (s.quiet.popFifo.emit (.success s.buf.cells)).endFrame := by
    rw [exec_endOk, State.consume_of_fires hr hf, State.quiet_buf]
    exact ⟨hst, rfl, rfl⟩
  obtain ⟨hcfg, hovr, hret, hstim, -, -⟩ := parserFrame_of_exec rfl ht
  refine ⟨_, s.buf.cells, ht, ⟨rfl, rfl⟩, by simp, fun k hk => Memory.getElem?_cells _ hk, rfl, rfl, fun _ => rfl,
    by simp [hf], hovr, hret, hstim, hcfg, ⟨rfl, rfl, rfl⟩, ?_⟩
  rintro ⟨-, ⟨-, -, -, hend⟩, -⟩
  obtain ⟨hc, hfull⟩ := hend hst
  exact ⟨hc, Evt.complete_success_cells hfull⟩

/-- Settles O19: `END_FAIL` fires, and a `Failure` has no payload word. -/
theorem endFailResult : Obligations.EndFailResult := by
  refine ⟨fun k => ?_, fun s b rest hr hst hf hb => ?_⟩
  · obtain ⟨-, -, -, -, -, hkey, -⟩ := keyActionMap k
    exact hkey.symm
  have ht : exec (.endFail (lastFlag s.cursor) b) s = .next (s.quiet.popFifo.emit .failure).endFrame := by
    rw [exec_endFail, State.consume_of_fires hr hf]
    exact ⟨hst, rfl, rfl, hb⟩
  obtain ⟨hcfg, hovr, hret, hstim, -, -⟩ := parserFrame_of_exec rfl ht
  exact ⟨_, ht, ⟨rfl, rfl⟩, rfl, rfl, rfl, fun _ => rfl, by simp [hf], hovr, hret, hstim, hcfg, ⟨rfl, rfl, rfl⟩⟩

/-! ### Any byte, in and at the end of a frame (R94 to R97, R99) -/

/-- R94, R95: inside a frame any byte is stored at `BUF[CURSOR]`; the tenth ends the payload. -/
theorem exec_payload_byte {s : State} {b : Byte} {rest : List Byte} (hr : s.run = true) (hst : s.st = .awaitingData)
    (hc : s.cursor.toNat ≤ 9) (hf : s.fifo = b :: rest) :
    ∃ t, exec (decodeKey (s.keyFor b)) s = .next t ∧ t.buf.read s.cursor.toNat = some b
      ∧ (∀ k, k ≠ s.cursor.toNat → t.buf.read k = s.buf.read k)
      ∧ t.cursor.toNat = s.cursor.toNat + 1 ∧ t.st = (if s.cursor = 9#4 then .awaitingEnd else .awaitingData)
      ∧ t.fifo = rest ∧ t.ovr = s.ovr ∧ t.stim = s.stim ∧ SameConfig s t ∧ SameRecords s t ∧ Silent s t := by
  by_cases h9 : s.cursor = 9#4
  · have hi : decodeKey (s.keyFor b) = .dataStoreLast b := (decodeKey_keyFor_eq_iff s _ _).mpr ⟨hst, h9, rfl⟩
    obtain ⟨-, hstore⟩ := dataStoreLastResult
    obtain ⟨t, ht, hread, hother, hcur, hend, hfifo, hovr, -, hstim, hcfg, hrec, hsilent⟩ :=
      hstore s b rest hr hst hf h9
    have hn : s.cursor.toNat = 9 := by simp [h9]
    rw [hi, hn, if_pos h9]
    exact ⟨t, ht, hread, hother, by simp [hcur], hend, hfifo, hovr, hstim, hcfg, hrec, hsilent⟩
  · have hi : decodeKey (s.keyFor b) = .dataStore b := (decodeKey_keyFor_eq_iff s _ _).mpr ⟨hst, h9, rfl⟩
    have h8 : s.cursor.toNat ≤ 8 := by bv_omega
    obtain ⟨-, hstore, -⟩ := dataStoreResult
    obtain ⟨t, ht, hread, hother, hcur, hdata, hfifo, hovr, -, hstim, hcfg, hrec, hsilent⟩ :=
      hstore s b rest hr hst hf h8
    rw [hi, if_neg h9]
    exact ⟨t, ht, hread, hother, hcur, hdata, hfifo, hovr, hstim, hcfg, hrec, hsilent⟩

/-- R96, R97: in `AwaitingEnd` any byte ends the frame, with the event it selects. -/
theorem exec_terminal_byte {s : State} {b : Byte} {rest : List Byte} (hr : s.run = true) (hst : s.st = .awaitingEnd)
    (hf : s.fifo = b :: rest) :
    ∃ t, exec (decodeKey (s.keyFor b)) s = .next t
      ∧ Emitted (if b = 0x0D#8 then .success s.buf.cells else .failure) s t ∧ t.st = .awaitingStart
      ∧ t.fifo = rest ∧ t.ovr = s.ovr ∧ t.stim = s.stim ∧ SameConfig s t ∧ SameRecords s t := by
  by_cases hb : b = 0x0D#8
  · subst hb
    have hi : decodeKey (s.keyFor 0x0D#8) = .endOk (lastFlag s.cursor) :=
      (decodeKey_keyFor_eq_iff s _ _).mpr ⟨hst, rfl, rfl⟩
    obtain ⟨-, hend⟩ := endOkResult
    obtain ⟨t, p, ht, hemit, hlen, hp, hstart, -, -, hfifo, hovr, -, hstim, hcfg, hrec, -⟩ := hend s rest hr hst hf
    have hcells : p = s.buf.cells := by
      refine List.ext_getElem? fun k => ?_
      by_cases hk : k < 10
      · rw [hp k hk, Memory.getElem?_cells _ hk]
      · simp [hlen, Nat.not_lt.mp hk]
    rw [hi, if_pos rfl]
    exact ⟨t, ht, hcells ▸ hemit, hstart, hfifo, hovr, hstim, hcfg, hrec⟩
  · have hi : decodeKey (s.keyFor b) = .endFail (lastFlag s.cursor) b :=
      (decodeKey_keyFor_eq_iff s _ _).mpr ⟨hst, rfl, rfl, hb⟩
    obtain ⟨-, hend⟩ := endFailResult
    obtain ⟨t, ht, hemit, -, hstart, -, -, hfifo, hovr, -, hstim, hcfg, hrec⟩ := hend s b rest hr hst hf hb
    rw [hi, if_neg hb]
    exact ⟨t, ht, hemit, hstart, hfifo, hovr, hstim, hcfg, hrec⟩

/-- Settles O41: the start byte is a byte like any other in `exec_payload_byte` and `exec_terminal_byte`. -/
theorem startByteInsideFrame : Obligations.StartByteInsideFrame := by
  refine fun s rest hr hf => ⟨fun hst hc => ?_, fun hst => ?_⟩
  · obtain ⟨t, ht, hread, -, hcur, hnext, hfifo, -, -, -, -, hsilent⟩ := exec_payload_byte hr hst hc hf
    exact ⟨t, ht, hread, hcur, hfifo, hsilent, hnext⟩
  · obtain ⟨t, ht, hemit, hstart, hfifo, -⟩ := exec_terminal_byte hr hst hf
    exact ⟨t, ht, hemit, hstart, hfifo⟩

/-! ### The fault (R98, R134) -/

theorem fault_of_exec_resetCfg {s t : State} {ch : Option ChannelId} {pin : PinId}
    (h : exec (.resetCfg ch pin) s = .next t) : t.fault = none := by
  cases (exec_resetCfg s ch pin).symm.trans h
  split
  · rfl
  · rfl

/-- No operation but `RESET_CFG` writes the fault record, except to record the fault. -/
theorem fault_of_exec {i : Instr} {s t : State} (h : exec i s = .next t) (hreset : i.op ≠ .resetCfg) :
    t.fault = s.fault ∨ t.fault = some .illegalState := by
  cases i with
  | push b => cases (exec_push s b).symm.trans h; exact .inl (by simp)
  | avail => cases (exec_avail s).symm.trans h; exact .inl rfl
  | obsRead n =>
    cases (exec_obsRead s n).symm.trans h
    split
    · exact .inl rfl
    · exact .inl rfl
  | resetCfg ch pin => exact absurd rfl hreset
  | _ =>
    cases keyOutcome_of_exec rfl h with
    | idle => exact .inl rfl
    | fault => exact .inr rfl
    | write => exact .inl rfl
    | emit => exact .inl rfl

/-- Settles O20: `ILLEGAL_STATE` fires, the operations obey `fault_of_exec`, and R25 shuts out the reserved code. -/
theorem illegalStateRecordsFault : Obligations.IllegalStateRecordsFault := by
  refine ⟨fun k => ?_, fun s b rest hr hst hf => ?_, fun i s t h hfault => ⟨fun hi => ?_, fun hi => ?_⟩, ?_⟩
  · obtain ⟨-, -, -, -, -, -, hkey, -⟩ := keyActionMap k
    exact hkey.symm
  · have ht : exec (.illegalState (lastFlag s.cursor) b) s = .next (s.quiet.recordFault .illegalState) := by
      rw [exec_illegalState, State.consume_of_fires hr hf]
      exact ⟨hst, rfl, rfl⟩
    obtain ⟨hcfg, hovr, hret, hstim, hop, hport⟩ := parserFrame_of_exec rfl ht
    exact ⟨_, ht, rfl, hop, hport, hret, hstim, hcfg, ⟨rfl, rfl, fun _ => rfl⟩, ⟨rfl, hovr⟩, ⟨rfl, rfl⟩⟩
  · cases i with
    | resetCfg ch pin => exact fault_of_exec_resetCfg h
    | _ => nomatch hi
  · obtain hsame | hrecorded := fault_of_exec h hi
    · exact hsame.trans hfault
    · exact hrecorded
  · rintro s last b ⟨-, ⟨hres, -⟩, -⟩ hs
    obtain ⟨-, c, hst, -⟩ := State.fires_of_selected hs
    exact hres hst

/-! ### Who writes the parser's state, and who emits (R91, R101, R102, R114) -/

/-- Settles O39: the three port operations have their equations, and a key operation its frame. -/
theorem parserStateIsOwned : Obligations.ParserStateIsOwned := by
  refine fun i s t h => ⟨fun hport hreset => ?_, fun hkey => ?_⟩
  · cases i with
    | push b =>
      cases (exec_push s b).symm.trans h
      obtain ⟨-, hparser, -⟩ := s.frame_of_push b
      exact hparser
    | avail => cases (exec_avail s).symm.trans h; exact ⟨rfl, rfl, fun _ => rfl⟩
    | obsRead n =>
      cases (exec_obsRead s n).symm.trans h
      split
      · exact ⟨rfl, rfl, fun _ => rfl⟩
      · exact ⟨rfl, rfl, fun _ => rfl⟩
    | resetCfg ch pin => exact absurd rfl hreset
    | _ => nomatch hport
  · obtain ⟨hcfg, hovr, -⟩ := parserFrame_of_exec hkey h
    exact ⟨hcfg, hovr⟩

theorem silent_of_exec_port {i : Instr} {s t : State} (hi : i.format = .port) (h : exec i s = .next t) :
    Silent s t := by
  cases i with
  | push b =>
    cases (exec_push s b).symm.trans h
    obtain ⟨-, -, -, hsilent⟩ := s.frame_of_push b
    exact hsilent
  | avail => cases (exec_avail s).symm.trans h; exact ⟨rfl, rfl⟩
  | obsRead n =>
    cases (exec_obsRead s n).symm.trans h
    split
    · exact ⟨rfl, rfl⟩
    · exact ⟨rfl, rfl⟩
  | resetCfg ch pin =>
    cases (exec_resetCfg s ch pin).symm.trans h
    split
    · exact ⟨rfl, rfl⟩
    · exact ⟨rfl, rfl⟩
  | _ => nomatch hi

/-- R101, R102: an operation is silent, or it ends the frame of a running block with one event. -/
theorem silent_or_emitted_of_exec {i : Instr} {s t : State} (h : exec i s = .next t) :
    Silent s t
    ∨ (s.run = true ∧ s.st = .awaitingEnd ∧ t.st = .awaitingStart
        ∧ (Emitted .failure s t ∨ Emitted (.success s.buf.cells) s t)) := by
  cases hi : i.format with
  | port => exact .inl (silent_of_exec_port hi h)
  | key =>
    cases keyOutcome_of_exec hi h with
    | idle => exact .inl ⟨rfl, rfl⟩
    | fault => exact .inl ⟨rfl, rfl⟩
    | write => exact .inl ⟨rfl, rfl⟩
    | emit hr hst e he =>
      obtain rfl | rfl := he
      · exact .inr ⟨hr, hst, rfl, .inl ⟨rfl, rfl⟩⟩
      · exact .inr ⟨hr, hst, rfl, .inr ⟨rfl, rfl⟩⟩

/-- The parser action selected in `AwaitingEnd` is the one of its terminal byte, and emits. -/
theorem emitted_of_selected_awaitingEnd {i : Instr} {s t : State} (hs : s.selected = some i) (hst : s.st = .awaitingEnd)
    (h : exec i s = .next t) : ∃ e, e ≠ .none ∧ Emitted e s t := by
  obtain ⟨hr, b, rest, hf, rfl⟩ := (s.selected_eq_some_iff i).mp hs
  obtain ⟨u, hu, hemit, -⟩ := exec_terminal_byte hr hst hf
  cases h.symm.trans hu
  refine ⟨_, ?_, hemit⟩
  split
  · nofun
  · nofun

/-- Settles O37: a step is an operation (`silent_or_emitted_of_exec`) or emits nothing; what a selected action does in
`AwaitingEnd` is `emitted_of_selected_awaitingEnd`. -/
theorem oneEventPerFrameEnd : Obligations.OneEventPerFrameEnd := by
  refine ⟨fun s t hstep => ?_, fun i s t _ hs h => ⟨fun hst => emitted_of_selected_awaitingEnd hs hst h, fun hst => ?_⟩⟩
  · obtain ⟨i, l, heq, -⟩ | ⟨l, heq⟩ | ⟨l, heq⟩ := step_cases s
    · obtain ⟨hevt, hevents⟩ | ⟨hr, hst, ht, hemit⟩ := silent_or_emitted_of_exec (heq.symm.trans hstep)
      · exact .inl ⟨hevt, hevents⟩
      · exact .inr ⟨hr, hst, ht, hemit.imp (fun h => ⟨h.evt, h.events⟩) (fun h => ⟨h.evt, h.events⟩)⟩
    · cases hstep.symm.trans heq
      exact .inl ⟨rfl, rfl⟩
    · cases hstep.symm.trans heq
      exact .inl ⟨rfl, rfl⟩
  · obtain hsilent | ⟨-, hend, -⟩ := silent_or_emitted_of_exec h
    · exact hsilent
    · exact absurd hend hst

end Sys2Proof.Machine

/-! ## Byte by byte: the parser's turns, frames and noise (R75, R90, R93, R100, R104) -/

namespace Sys2Proof.Machine

/-! ### The parser's turn (R75, R90) -/

theorem State.parserTurn_of_fifo {s : State} {b : Byte} {bs : List Byte} (hr : s.run = true) (hf : s.fifo = b :: bs) :
    s.parserTurn = .run (decodeKey (s.keyFor b)) s := by
  rw [State.parserTurn, s.selected_of_fifo hr hf]

/-- Settles O11: each of the parser's turns fetches the selected action (`State.parserTurn_of_fifo`); a `DRAIN` asks
first whether the parser is enabled. -/
theorem stepRunsSelectedAction : Obligations.StepRunsSelectedAction := by
  refine fun s b bs hr hf => ⟨fun hstim => step_of_run ?_, fun rest hstim => step_of_run ?_,
    fun rest hstim => step_of_run ?_⟩
  · rw [State.fetch, hstim]
    exact State.parserTurn_of_fifo hr hf
  · have hen : s.enabled = true := s.enabled_iff.mpr ⟨hr, by simp [State.count, hf]⟩
    rw [State.fetch, hstim]
    exact (if_pos hen).trans (State.parserTurn_of_fifo hr hf)
  · rw [State.fetch, hstim]
    exact State.parserTurn_of_fifo (s := { s with stim := rest }) hr hf

/-- With nothing to consume and no turn pending, steps do no more than clear the outputs. -/
theorem steps_of_parked (n : Nat) {s : State} (hf : s.fifo = []) (hstim : s.stim = []) :
    steps n s = .next s ∨ steps n s = .next s.quiet := by
  induction n generalizing s with
  | zero => exact .inl rfl
  | succ n ih =>
    have hoff : s.enabled = false := by simp [State.enabled, State.fifoNe, State.count, hf]
    have hstep : step s = .next s.quiet := by
      refine step_of_settled ((State.fetch_of_not_enabled hoff (.inl hstim)).trans ?_)
      rw [hstim, List.tail_nil, ← hstim]
    rw [steps_succ n hstep]
    obtain h | h := ih (s := s.quiet) hf hstim
    · exact .inr h
    · exact .inr h

/-- Settles O42: `steps_of_parked`, and the outputs are outside every part of the state. -/
theorem parkedIndefinitely : Obligations.ParkedIndefinitely := by
  intro n s hf hstim
  obtain h | h := steps_of_parked n hf hstim
  · exact ⟨s, h, rfl, rfl, rfl, hf, rfl, hstim, rfl, ⟨rfl, rfl, rfl, rfl, rfl, rfl, rfl⟩, ⟨rfl, rfl, rfl⟩⟩
  · obtain ⟨hcfg, -, -, hrec, -⟩ := s.frame_of_outputs s.stim .none
    exact ⟨s.quiet, h, rfl, rfl, rfl, hf, rfl, hstim, rfl, hcfg, hrec⟩

/-! ### What silent steps keep -/

theorem SameConfig.trans {s t u : State} (h : SameConfig s t) (h' : SameConfig t u) : SameConfig s u :=
  ⟨h'.params.trans h.params, h'.run.trans h.run, h'.cfgErr.trans h.cfgErr, h'.channel.trans h.channel,
    h'.enPin.trans h.enPin, h'.availPins.trans h.availPins, h'.enN.trans h.enN⟩

theorem SameParser.trans {s t u : State} (h : SameParser s t) (h' : SameParser t u) : SameParser s u :=
  ⟨h'.st.trans h.st, h'.cursor.trans h.cursor, fun k => (h'.buf k).trans (h.buf k)⟩

theorem SameRecords.trans {s t u : State} (h : SameRecords s t) (h' : SameRecords t u) : SameRecords s u :=
  ⟨h'.fault.trans h.fault, h'.refusedOp.trans h.refusedOp, h'.refusedPort.trans h.refusedPort⟩

/-- What every number of silent parser steps keeps: all but the parser's own state, the FIFO, the schedule and the
outputs of the last step. -/
structure SilentRun (s t : State) : Prop where
  events  : t.events = s.events
  ovr     : t.ovr = s.ovr
  config  : SameConfig s t
  records : SameRecords s t

theorem SilentRun.refl (s : State) : SilentRun s s :=
  ⟨rfl, rfl, ⟨rfl, rfl, rfl, rfl, rfl, rfl, rfl⟩, ⟨rfl, rfl, rfl⟩⟩

theorem SilentRun.trans {s t u : State} (h : SilentRun s t) (h' : SilentRun t u) : SilentRun s u :=
  ⟨h'.events.trans h.events, h'.ovr.trans h.ovr, h.config.trans h'.config, h.records.trans h'.records⟩

/-! ### Bytes on their way to the parser -/

/-- The two ways in which bytes come to the parser, and what is there after them: queued in the FIFO, the parser having
every turn, or by the turns of `FEED` (R75). -/
inductive Delivery
  | queued (more : List Byte)
  | fed (more : List Turn)

/-- How many steps bring one byte into the parser. -/
def Delivery.period : Delivery → Nat
  | .queued _ => 1
  | .fed _ => 2

/-- In `s` the bytes `bs` come next to the parser. -/
def Delivery.Brings : Delivery → List Byte → State → Prop
  | .queued more, bs, s => s.stim = [] ∧ s.fifo = bs ++ more
  | .fed more, bs, s => s.fifo = [] ∧ s.stim = stimFeed bs ++ more ∧ 1 ≤ s.params.fifoDepth

theorem steps_one (s : State) : steps 1 s = step s := by
  cases h : step s <;> simp [steps, h]

theorem stimFeed_cons (b : Byte) (bs : List Byte) :
    stimFeed (b :: bs) = portTurnOf (.push b) :: .parser :: stimFeed bs := rfl

/-- The `PUSH` of a `FEED` puts its byte into the empty FIFO, and the parser's turn after it takes it. -/
theorem steps_two_of_feed {s : State} {b : Byte} {l : List Turn} (hr : s.run = true) (hf : s.fifo = [])
    (hdepth : 1 ≤ s.params.fifoDepth) (hstim : s.stim = portTurnOf (.push b) :: .parser :: l) :
    ∃ u, steps 2 s = exec (decodeKey (u.keyFor b)) u ∧ u.fifo = [b] ∧ u.stim = l ∧ SilentRun s u ∧ SameParser s u := by
  have hpushed : step s = exec (.push b) { s with stim := .parser :: l } :=
    stepRunsPortWord s _ _ _ _ hstim (decodePort_encodeWord_push b _)
  obtain ⟨-, hpush⟩ := pushResult
  obtain ⟨t, ht, -, htstim, hcfg, hparser, hrec, hsilent, -, hroom, -⟩ := hpush { s with stim := .parser :: l } b
  obtain ⟨hfifo, -, hovr, -⟩ := hroom hr (by simpa [State.count, hf] using Nat.lt_of_succ_le hdepth)
  have htf : t.fifo = [b] := hfifo.trans (congrArg (· ++ [b]) hf)
  obtain ⟨-, -, hturn⟩ := stepRunsSelectedAction t b [] (hcfg.run.trans hr) htf
  refine ⟨{ t with stim := l }, ?_, htf, rfl, ⟨hsilent.events, hovr, ?_, ?_⟩, ?_⟩
  · rw [steps_succ 1 (hpushed.trans ht)]
    exact (steps_one t).trans (hturn l htstim)
  · exact ⟨hcfg.params, hcfg.run, hcfg.cfgErr, hcfg.channel, hcfg.enPin, hcfg.availPins, hcfg.enN⟩
  · exact ⟨hrec.fault, hrec.refusedOp, hrec.refusedPort⟩
  · exact ⟨hparser.st, hparser.cursor, hparser.buf⟩

/-- In either way of delivery the next byte reaches the parser in one period: `s` steps as its selected action does at
some `u`, which differs from `s` in the FIFO, the schedule and the outputs only. -/
theorem Delivery.exists_turn (d : Delivery) {b : Byte} {bs : List Byte} {s : State} (hr : s.run = true)
    (h : d.Brings (b :: bs) s) :
    ∃ u rest, steps d.period s = exec (decodeKey (u.keyFor b)) u ∧ u.fifo = b :: rest ∧ SilentRun s u ∧ SameParser s u
      ∧ ∀ t : State, t.fifo = rest → t.stim = u.stim → SameConfig u t → d.Brings bs t := by
  cases d with
  | queued more =>
    obtain ⟨hstim, hf⟩ := h
    obtain ⟨hturn, -⟩ := stepRunsSelectedAction s b (bs ++ more) hr hf
    exact ⟨s, bs ++ more, (steps_one s).trans (hturn hstim), hf, .refl s, ⟨rfl, rfl, fun _ => rfl⟩,
      fun t htf htstim _ => ⟨htstim.trans hstim, htf⟩⟩
  | fed more =>
    obtain ⟨hf, hstim, hdepth⟩ := h
    obtain ⟨u, hu, huf, hustim, hrun, hparser⟩ := steps_two_of_feed hr hf hdepth
      (hstim.trans (congrArg (· ++ more) (stimFeed_cons b bs)))
    exact ⟨u, [], hu, huf, hrun, hparser, fun t htf htstim hcfg =>
      ⟨htf, htstim.trans hustim, (hrun.config.trans hcfg).params ▸ hdepth⟩⟩

/-- The induction over bytes delivered: what one silent byte keeps of `Inv`, the bytes already taken being `got`, any
number of them keep. -/
theorem Delivery.exists_run (d : Delivery) {Inv : List Byte → State → Prop} {bs more : List Byte}
    (hbyte : ∀ (got : List Byte) (b : Byte) (left : List Byte) (u : State), b ∈ bs → got.length < bs.length →
      Inv got u → u.run = true → d.Brings (b :: left) u →
      ∃ t, steps d.period u = .next t ∧ d.Brings left t ∧ SilentRun u t ∧ Inv (got ++ [b]) t)
    (got left : List Byte) (hsplit : got ++ left = bs) {s : State} (hinv : Inv got s) (hr : s.run = true)
    (hs : d.Brings (left ++ more) s) :
    ∃ t, steps (d.period * left.length) s = .next t ∧ d.Brings more t ∧ SilentRun s t ∧ Inv bs t := by
  induction left generalizing got s with
  | nil =>
    rw [List.append_nil] at hsplit
    exact ⟨s, rfl, hs, .refl s, hsplit ▸ hinv⟩
  | cons b left ih =>
    have hlt : got.length < bs.length := by simp [← hsplit]
    obtain ⟨u, hu, hbrings, hrun, hnext⟩ := hbyte got b (left ++ more) s (by simp [← hsplit]) hlt hinv hr hs
    obtain ⟨t, ht, hmore, hrun', hend⟩ :=
      ih (got ++ [b]) (by simpa using hsplit) hnext (hrun.config.run.trans hr) hbrings
    refine ⟨t, ?_, hmore, hrun.trans hrun', hend⟩
    rw [List.length_cons, Nat.mul_succ, Nat.add_comm, steps_add _ _ hu]
    exact ht

/-! ### Noise (R93) -/

theorem Delivery.noise_byte (d : Delivery) {b : Byte} {left : List Byte} {s : State} (hr : s.run = true)
    (hst : s.st = .awaitingStart) (hb : b ≠ 0x0A#8) (h : d.Brings (b :: left) s) :
    ∃ t, steps d.period s = .next t ∧ d.Brings left t ∧ SilentRun s t ∧ SameParser s t := by
  obtain ⟨u, rest, hu, hf, hrun, hparser, hnext⟩ := d.exists_turn hr h
  have hust : u.st = .awaitingStart := hparser.st.trans hst
  have hi : decodeKey (u.keyFor b) = .noiseDiscard (lastFlag u.cursor) b :=
    (decodeKey_keyFor_eq_iff u _ _).mpr ⟨hust, rfl, rfl, hb⟩
  obtain ⟨-, hnoise⟩ := noiseDiscardResult
  obtain ⟨t, ht, hfifo, hovr, -, hstim, hcfg, hsame, hrec, hsilent⟩ :=
    hnoise u b rest (hrun.config.run.trans hr) hust hf hb
  exact ⟨t, by rw [hu, hi, ht], hnext t hfifo hstim hcfg, hrun.trans ⟨hsilent.events, hovr, hcfg, hrec⟩,
    hparser.trans hsame⟩

theorem Delivery.noise_run (d : Delivery) {noise more : List Byte} {s : State} (hr : s.run = true)
    (hst : s.st = .awaitingStart) (hnoise : ∀ b ∈ noise, b ≠ 0x0A#8) (h : d.Brings (noise ++ more) s) :
    ∃ t, steps (d.period * noise.length) s = .next t ∧ d.Brings more t ∧ SilentRun s t ∧ SameParser s t := by
  refine d.exists_run (Inv := fun _ => SameParser s) ?_ [] noise rfl ⟨rfl, rfl, fun _ => rfl⟩ hr h
  intro _ b left u hb _ hsame hur hu
  obtain ⟨t, ht, hleft, hrun, hsame'⟩ := d.noise_byte hur (hsame.st.trans hst) (hnoise b hb) hu
  exact ⟨t, ht, hleft, hrun, hsame.trans hsame'⟩

/-- Settles O45: `Delivery.noise_run` over a queue. -/
theorem noiseStreamIsSilent : Obligations.NoiseStreamIsSilent := by
  intro s noise rest hr hst hstim hnoise hf
  obtain ⟨t, ht, ⟨htstim, htf⟩, hrun, hsame⟩ :=
    (Delivery.queued rest).noise_run (more := []) hr hst hnoise ⟨hstim, by rw [List.append_nil, hf]⟩
  rw [Delivery.period, Nat.one_mul] at ht
  exact ⟨t, ht, hrun.events, hsame, htf, hrun.ovr, htstim, hrun.config, hrun.records⟩

/-! ### Frames (R104) -/

/-- R92 to R95: the parser is inside a frame, of whose payload it has taken the bytes `got`. -/
structure InFrame (got : List Byte) (s : State) : Prop where
  st     : s.st = if got.length = 10 then .awaitingEnd else .awaitingData
  cursor : s.cursor.toNat = got.length
  cells  : ∀ k < got.length, s.buf.read k = got[k]?

theorem InFrame.cells_eq {p : List Byte} {s : State} (h : InFrame p s) (hp : p.length = 10) :
    s.buf.cells = p.map some := by
  refine List.ext_getElem (by simp [hp]) fun k hk hk' => ?_
  have hkp : k < p.length := by simpa using hk'
  rw [Memory.getElem_cells, h.cells k hkp, List.getElem_map, List.getElem?_eq_getElem hkp]

theorem Delivery.start_byte (d : Delivery) {left : List Byte} {s : State} (hr : s.run = true)
    (hst : s.st = .awaitingStart) (h : d.Brings (0x0A#8 :: left) s) :
    ∃ t, steps d.period s = .next t ∧ d.Brings left t ∧ SilentRun s t ∧ InFrame [] t := by
  obtain ⟨u, rest, hu, hf, hrun, hparser, hnext⟩ := d.exists_turn hr h
  have hust : u.st = .awaitingStart := hparser.st.trans hst
  have hi : decodeKey (u.keyFor 0x0A#8) = .startDetect (lastFlag u.cursor) :=
    (decodeKey_keyFor_eq_iff u _ _).mpr ⟨hust, rfl, rfl⟩
  obtain ⟨-, hstart⟩ := startDetectResult
  obtain ⟨t, ht, hdata, hzero, -, hfifo, hovr, -, hstim, hcfg, hrec, hsilent⟩ :=
    hstart u rest (hrun.config.run.trans hr) hust hf
  exact ⟨t, by rw [hu, hi, ht], hnext t hfifo hstim hcfg, hrun.trans ⟨hsilent.events, hovr, hcfg, hrec⟩,
    hdata, by simp [hzero], nofun⟩

theorem Delivery.payload_byte (d : Delivery) {got : List Byte} {b : Byte} {left : List Byte} {s : State}
    (hr : s.run = true) (hin : InFrame got s) (hlt : got.length < 10) (h : d.Brings (b :: left) s) :
    ∃ t, steps d.period s = .next t ∧ d.Brings left t ∧ SilentRun s t ∧ InFrame (got ++ [b]) t := by
  obtain ⟨hst, hcursor, hcells⟩ := hin
  obtain ⟨u, rest, hu, hf, hrun, hparser, hnext⟩ := d.exists_turn hr h
  have hust : u.st = .awaitingData := by rw [hparser.st, hst, if_neg hlt.ne]
  have hucur : u.cursor.toNat = got.length := by rw [hparser.cursor, hcursor]
  obtain ⟨t, ht, hread, hother, hcur, hend, hfifo, hovr, hstim, hcfg, hrec, hsilent⟩ :=
    exec_payload_byte (hrun.config.run.trans hr) hust (by omega) hf
  refine ⟨t, hu.trans ht, hnext t hfifo hstim hcfg, hrun.trans ⟨hsilent.events, hovr, hcfg, hrec⟩, ?_, ?_, ?_⟩
  · have hlast : u.cursor = 9#4 ↔ (got ++ [b]).length = 10 := by
      rw [List.length_append, List.length_singleton, ← hucur]
      bv_omega
    simp only [hend, hlast]
  · simp [hcur, hucur]
  · intro k hk
    obtain hk' | rfl := Nat.lt_succ_iff_lt_or_eq.mp (by simpa using hk : k < got.length + 1)
    · rw [hother k (by omega), hparser.buf, hcells k hk', List.getElem?_append_left hk']
    · rw [← hucur, hread, hucur, List.getElem?_concat_length]

theorem Delivery.payload_run (d : Delivery) {p more : List Byte} {s : State} (hr : s.run = true) (hin : InFrame [] s)
    (hp : p.length = 10) (h : d.Brings (p ++ more) s) :
    ∃ t, steps (d.period * 10) s = .next t ∧ d.Brings more t ∧ SilentRun s t ∧ InFrame p t := by
  rw [← hp]
  refine d.exists_run (Inv := InFrame) ?_ [] p rfl hin hr h
  intro got b left u _ hlt hgot hur hu
  exact d.payload_byte hur hgot (hp ▸ hlt) hu

theorem Delivery.terminal_byte (d : Delivery) {p : List Byte} {e : Byte} {left : List Byte} {s : State}
    (hr : s.run = true) (hin : InFrame p s) (hp : p.length = 10) (h : d.Brings (e :: left) s) :
    ∃ t, steps d.period s = .next t ∧ d.Brings left t
      ∧ Emitted (if e = 0x0D#8 then .success (p.map some) else .failure) s t ∧ t.st = .awaitingStart
      ∧ t.ovr = s.ovr ∧ SameConfig s t ∧ SameRecords s t := by
  obtain ⟨u, rest, hu, hf, hrun, hparser, hnext⟩ := d.exists_turn hr h
  have hust : u.st = .awaitingEnd := by rw [hparser.st, hin.st, if_pos hp]
  have hcells : u.buf.cells = p.map some := by
    rw [← hin.cells_eq hp]
    exact List.map_congr_left fun k _ => hparser.buf k
  obtain ⟨t, ht, hemit, hstart, hfifo, hovr, hstim, hcfg, hrec⟩ :=
    exec_terminal_byte (hrun.config.run.trans hr) hust hf
  rw [hcells] at hemit
  exact ⟨t, hu.trans ht, hnext t hfifo hstim hcfg, ⟨hemit.evt, hemit.events.trans (by rw [hrun.events])⟩, hstart,
    hovr.trans hrun.ovr, hrun.config.trans hcfg, hrun.records.trans hrec⟩

/-- R104 for both ways of delivery: the start byte and the payload silently to `AwaitingEnd`, and the terminal byte to
its event. -/
theorem Delivery.frame_run (d : Delivery) {p : List Byte} {e : Byte} {s : State} (hr : s.run = true)
    (hst : s.st = .awaitingStart) (hp : p.length = 10) (h : d.Brings (0x0A#8 :: (p ++ [e])) s) :
    (∃ u, steps (d.period * 11) s = .next u ∧ u.events = s.events ∧ u.st = .awaitingEnd)
    ∧ ∃ t, steps (d.period * 12) s = .next t ∧ d.Brings [] t
      ∧ Emitted (if e = 0x0D#8 then .success (p.map some) else .failure) s t
      ∧ t.st = .awaitingStart ∧ t.ovr = s.ovr ∧ SameConfig s t ∧ SameRecords s t := by
  obtain ⟨t₁, ht₁, hbrings₁, hrun₁, hin₁⟩ := d.start_byte hr hst h
  obtain ⟨t₂, ht₂, hbrings₂, hrun₂, hin₂⟩ := d.payload_run (hrun₁.config.run.trans hr) hin₁ hp hbrings₁
  have hrun : SilentRun s t₂ := hrun₁.trans hrun₂
  obtain ⟨t, ht, hbrings, hemit, hstart, hovr, hcfg, hrec⟩ :=
    d.terminal_byte (hrun.config.run.trans hr) hin₂ hp hbrings₂
  have h11 : steps (d.period * 11) s = .next t₂ := by
    rw [Nat.mul_succ, Nat.add_comm, steps_add _ _ ht₁, ht₂]
  refine ⟨⟨t₂, h11, hrun.events, by rw [hin₂.st, if_pos hp]⟩, t, ?_, hbrings,
    ⟨hemit.evt, hemit.events.trans (by rw [hrun.events])⟩, hstart, hovr.trans hrun.ovr, hrun.config.trans hcfg,
    hrun.records.trans hrec⟩
  rw [Nat.mul_succ, steps_add _ _ h11, ht]

/-- Settles O43: `Delivery.frame_run` over a queue. -/
theorem frameEmitsItsEvent : Obligations.FrameEmitsItsEvent := by
  intro s p e rest hr hst hstim hp hf
  have hbrings : (Delivery.queued rest).Brings (0x0A#8 :: (p ++ [e])) s := ⟨hstim, by simp [hf]⟩
  obtain ⟨hsilent, t, ht, ⟨htstim, htf⟩, hemit, hstart, hovr, hcfg, hrec⟩ := Delivery.frame_run _ hr hst hp hbrings
  exact ⟨hsilent, t, ht, hemit, hstart, htf, hovr, htstim, hcfg, hrec⟩

/-- Settles O44: `Delivery.frame_run` over `FEED`. -/
theorem feedFrameEmitsItsEvent : Obligations.FeedFrameEmitsItsEvent := by
  intro s p e rest hr hst hf hdepth hp hstim
  have hbrings : (Delivery.fed rest).Brings (0x0A#8 :: (p ++ [e])) s := ⟨hf, hstim, hdepth⟩
  obtain ⟨-, t, ht, ⟨htf, htstim, -⟩, hemit, hstart, hovr, hcfg, hrec⟩ := Delivery.frame_run _ hr hst hp hbrings
  exact ⟨t, ht, hemit, hstart, htf, hovr, htstim, hcfg, hrec⟩

end Sys2Proof.Machine

/-! ## Construction, the configuration and the observation ports (R66 to R68, R110 to R117, R130) -/

namespace Sys2Proof.Machine

/-! ### `RESET_CFG` (R110, R111, R116, R130) -/

/-- Everything a `RESET_CFG` can do: construct, where validation answers 0, or raise the code it answers. -/
theorem resetCfg_cases {s t : State} {ch : Option ChannelId} {pin : PinId} (h : exec (.resetCfg ch pin) s = .next t) :
    (validate s.params ch pin = 0#3 ∧ t = s.quiet.fresh.construct ch pin (availMask s.params ch))
    ∨ (validate s.params ch pin ≠ 0#3 ∧ t = s.quiet.fresh.raiseConfigError (validate s.params ch pin)) := by
  cases (exec_resetCfg s ch pin).symm.trans h
  split
  · rename_i hv
    exact .inl ⟨hv, rfl⟩
  · rename_i hv
    exact .inr ⟨hv, rfl⟩

/-- R111: a construction records what validation answers. -/
theorem cfgErr_of_exec_resetCfg {s t : State} {ch : Option ChannelId} {pin : PinId}
    (h : exec (.resetCfg ch pin) s = .next t) : t.cfgErr = validate s.params ch pin := by
  obtain ⟨hv, rfl⟩ | ⟨-, rfl⟩ := resetCfg_cases h
  · exact hv.symm
  · rfl

/-- Settles O28: both branches start afresh and keep what outlives the operation, and the configuration is the branch's;
a valid one names a channel (`validate_eq_zero_iff`). -/
theorem resetCfgResult : Obligations.ResetCfgResult := by
  refine ⟨fun w side => decodePort_eq_some_iff (decodePort_encodeWord_resetCfg none 0 side) w, fun s ch pin => ?_⟩
  refine ⟨_, exec_resetCfg s ch pin, ?_⟩
  split
  · rename_i hv
    obtain ⟨c, rfl, -⟩ := (validate_eq_zero_iff ..).mp hv
    exact ⟨rfl, rfl, fun _ => rfl, rfl, rfl, rfl, rfl, rfl, ⟨rfl, rfl⟩, rfl, rfl, rfl, rfl,
      fun _ => ⟨c, rfl, rfl, rfl, rfl, rfl, rfl, rfl, rfl⟩, absurd hv⟩
  · rename_i hv
    exact ⟨rfl, rfl, fun _ => rfl, rfl, rfl, rfl, rfl, rfl, ⟨rfl, rfl⟩, rfl, rfl, rfl, rfl,
      (absurd · hv), fun _ => ⟨rfl, rfl, rfl, rfl, rfl, rfl, rfl⟩⟩

/-- Settles O30: with equal parameters both states take the same branch, which writes each of these elements from the
operands and the parameters alone. -/
theorem constructionIsRepeatable : Obligations.ConstructionIsRepeatable := by
  intro s s' t t' ch pin hp h h'
  cases (exec_resetCfg s ch pin).symm.trans h
  cases (exec_resetCfg s' ch pin).symm.trans h'
  rw [← hp]
  split
  · exact ⟨⟨hp.symm, rfl, rfl, rfl, rfl, rfl, rfl⟩, ⟨rfl, rfl, fun _ => rfl⟩, ⟨rfl, rfl⟩, rfl, rfl⟩
  · exact ⟨⟨hp.symm, rfl, rfl, rfl, rfl, rfl, rfl⟩, ⟨rfl, rfl, fun _ => rfl⟩, ⟨rfl, rfl⟩, rfl, rfl⟩

/-! ### The configuration under the other operations (R112, R113, R117) -/

/-- No operation but `RESET_CFG` writes the configuration or raises `ConfigError`. -/
theorem config_of_exec {i : Instr} {s t : State} (h : exec i s = .next t) (hreset : i.op ≠ .resetCfg) :
    SameConfig s t ∧ ∀ c, t.ret ≠ .configError c := by
  cases i with
  | push b =>
    cases (exec_push s b).symm.trans h
    exact ⟨(s.frame_of_push b).1, by simp⟩
  | avail =>
    cases (exec_avail s).symm.trans h
    exact ⟨(s.frame_of_outputs s.stim _).1, nofun⟩
  | obsRead n =>
    cases (exec_obsRead s n).symm.trans h
    split
    · exact ⟨⟨rfl, rfl, rfl, rfl, rfl, rfl, rfl⟩, nofun⟩
    · exact ⟨(s.frame_of_outputs s.stim _).1, nofun⟩
  | resetCfg ch pin => exact absurd rfl hreset
  | _ =>
    obtain ⟨hcfg, -, hret, -⟩ := parserFrame_of_exec rfl h
    exact ⟨hcfg, by simp [hret]⟩

/-- Settles O32: the first half of `config_of_exec`. -/
theorem configurationIsImmutable : Obligations.ConfigurationIsImmutable :=
  fun _ _ _ h hreset => (config_of_exec h hreset).1

/-- Settles O29: the five answers are the branches of `validate`; `RESET_CFG` records and raises the answer, which is
at most 4 (`validate_le`), and the others do neither (`config_of_exec`). -/
theorem validateAnswersFirstCause : Obligations.ValidateAnswersFirstCause := by
  refine ⟨fun p pin => ⟨rfl, fun c => ⟨fun hch => ?_, fun hch hres => ?_, fun hch hres hpin => ?_,
    fun hch hres hpin => ?_⟩⟩, fun s t ch pin h => ⟨cfgErr_of_exec_resetCfg h, fun c => ?_⟩,
    fun i s t h => ⟨fun hreset => (config_of_exec h hreset).2, fun hle => ?_⟩⟩
  · simp [validate, hch]
  · simp [validate, hch, hres]
  · simp [validate, hch, hres, hpin]
  · simp [validate, hch, hres, hpin]
  · obtain ⟨hv, rfl⟩ | ⟨hv, rfl⟩ := resetCfg_cases h
    · exact ⟨nofun, fun ⟨hc, hne⟩ => absurd (hc.symm.trans hv) hne⟩
    · simp only [State.raiseConfigError_ret, Ret.configError.injEq]
      exact ⟨fun hc => ⟨hc, hc ▸ hv⟩, And.left⟩
  · by_cases hi : i.op = .resetCfg
    · cases i with
      | resetCfg ch pin => exact cfgErr_of_exec_resetCfg h ▸ validate_le ..
      | _ => nomatch hi
    · exact (config_of_exec h hi).1.cfgErr ▸ hle

theorem freeMask_cons (res : List PinId) (q : PinId) (qs : List PinId) :
    freeMask res (q :: qs) = Nat.bit (decide (q ∉ res)) (freeMask res qs) := by
  by_cases h : q ∈ res <;> simp [freeMask, Nat.bit_val, h, Nat.add_comm]

theorem testBit_freeMask (res qs : List PinId) (k : Nat) :
    (freeMask res qs).testBit k = true ↔ ∃ q, qs[k]? = some q ∧ q ∉ res := by
  induction qs generalizing k with
  | nil => simp [freeMask]
  | cons q qs ih =>
    rw [freeMask_cons]
    cases k with
    | zero => simp
    | succ k => rw [Nat.testBit_bit_succ, ih, List.getElem?_cons_succ]

/-- Settles O31: `testBit_freeMask` for the pins the channel reserves, and `config_of_exec`. -/
theorem availMaskBits : Obligations.AvailMaskBits :=
  ⟨fun p c => testBit_freeMask (reservedPins p c) p.pins, fun _ _ _ h hreset => (config_of_exec h hreset).1.availPins⟩

/-- C6: an operation drives the enable line high, releases it or leaves it. -/
theorem enN_ne_low_of_exec {i : Instr} {s t : State} (h : exec i s = .next t) (hs : s.enN ≠ .low) : t.enN ≠ .low := by
  by_cases hi : i.op = .resetCfg
  · cases i with
    | resetCfg ch pin =>
      obtain ⟨-, rfl⟩ | ⟨-, rfl⟩ := resetCfg_cases h
      · simp
      · simp
    | _ => nomatch hi
  · exact (config_of_exec h hi).1.enN ▸ hs

/-- Settles O33: the line is high in the branch of a valid configuration and part of the configuration otherwise; a step
is an operation (`enN_ne_low_of_exec`) or leaves the line. -/
theorem enableLineNeverLow : Obligations.EnableLineNeverLow := by
  refine ⟨fun s t ch pin hv h => ?_, fun _ _ _ h hreset => (config_of_exec h hreset).1.enN, fun s t hs hstep => ?_⟩
  · obtain ⟨-, rfl⟩ | ⟨hne, -⟩ := resetCfg_cases h
    · rfl
    · exact absurd hv hne
  · obtain ⟨i, l, heq, -⟩ | ⟨l, heq⟩ | ⟨l, heq⟩ := step_cases s
    · exact enN_ne_low_of_exec (heq.symm.trans hstep) hs
    · cases hstep.symm.trans heq
      exact hs
    · cases hstep.symm.trans heq
      exact hs

/-! ### `OBS_READ` (R68, R115) -/

/-- R115: a port of an element that may be `UNDEF` has the element's value, or none. -/
theorem getD_map_noValue {α : Type} (f : α → PortValue) (o : Option α) :
    (∀ a, o = some a → (o.map f).getD .noValue = f a) ∧ (o = none → (o.map f).getD .noValue = .noValue) := by
  cases o <;> simp

/-- R68: ports 5 to 14 are the ten cells of `BUF`. -/
theorem State.portValue_cell (s : State) {n : BitVec 4} (h5 : 5 ≤ n.toNat) (h15 : n ≠ 15#4) :
    s.portValue n = ((s.buf.read (n.toNat - 5)).map .bufByte).getD .noValue := by
  have hne : ∀ m : BitVec 4, m.toNat < 5 → n ≠ m := fun m hm heq => by
    rw [heq] at h5
    omega
  simp [State.portValue, hne, h15]

/-- The configuration registers read by ports 2 and 3 are `UNDEF` while no reader is constructed (R30). -/
theorem BlockInv.channel_and_enPin_eq_none {s : State} (h : BlockInv s) (hr : s.run = false) :
    s.channel = none ∧ s.enPin = none := by
  obtain ⟨-, -, -, -, ⟨-, hoff⟩, -⟩ := h
  obtain ⟨-, -, hch, hpin, -⟩ := hoff hr
  exact ⟨hch, hpin⟩

/-- Settles O34: the word is the operation's own; each port below 15 is read as an output alone, with the value of its
row of R68; port 15 sets its mark. -/
theorem obsReadResult : Obligations.ObsReadResult := by
  refine ⟨fun w side n => ?_, fun s n hn => ?_, fun s => ?_⟩
  · exact encodeWord_obsRead n ▸ decodePort_eq_some_iff (decodePort_encodeWord_obsRead n side) w
  · have ht : exec (.obsRead n) s = .next (s.quiet.returning (.port (s.portValue n))) := by
      rw [exec_obsRead, if_neg hn]
    obtain ⟨hcfg, hparser, hinput, hrec, hsilent⟩ := s.frame_of_outputs s.stim (.port (s.portValue n))
    refine ⟨_, _, ht, rfl, rfl, hcfg, hparser, hinput, hrec, hsilent, ?_, ?_, ?_, ?_, ?_, fun h5 => ?_,
      fun hinv hr hport => ?_⟩
    · rintro rfl
      rfl
    · rintro rfl
      rfl
    · rintro rfl
      exact getD_map_noValue .channel s.channel
    · rintro rfl
      exact getD_map_noValue .pin s.enPin
    · rintro rfl
      rfl
    · rw [s.portValue_cell h5 hn]
      exact getD_map_noValue .bufByte _
    · obtain ⟨hch, hpin⟩ := hinv.channel_and_enPin_eq_none hr
      obtain rfl | rfl := hport
      · exact (getD_map_noValue .channel s.channel).2 hch
      · exact (getD_map_noValue .pin s.enPin).2 hpin
  · exact ⟨_, exec_obsRead s 15#4, rfl, rfl, rfl, rfl, rfl, ⟨rfl, rfl, rfl, rfl, rfl, rfl, rfl⟩,
      ⟨rfl, rfl, fun _ => rfl⟩, ⟨rfl, rfl⟩, ⟨rfl, rfl⟩⟩

end Sys2Proof.Machine

/-! ## What a run keeps on record: the fault and the refusal marks (R73, R115, R134) -/

namespace Sys2Proof.Machine

/-! ### Whose turn runs a port operation (R72, R90) -/

theorem State.format_of_selected {s : State} {i : Instr} (h : s.selected = some i) : i.format = .key := by
  obtain ⟨-, b, rest, -, rfl⟩ := (s.selected_eq_some_iff i).mp h
  obtain ⟨hkey, -, -⟩ := (decodeKey_eq_iff (s.keyFor b) _).mp rfl
  exact hkey

theorem State.format_of_parserTurn {s t : State} {i : Instr} (h : s.parserTurn = .run i t) : i.format = .key := by
  cases hs : s.selected with
  | none => simp [State.parserTurn, hs] at h
  | some j =>
    obtain ⟨rfl, -⟩ : j = i ∧ s = t := by simpa [State.parserTurn, hs] using h
    exact State.format_of_selected hs

/-- R72: only a port transaction runs a port operation, and its word is the operation's. -/
theorem State.stim_of_fetch_port {s t : State} {i : Instr} (h : s.fetch = .run i t) (hi : i.format = .port) :
    ∃ w side rest, s.stim = .port w side :: rest ∧ decodePort w side = some i := by
  have hparser : ∀ u : State, u.parserTurn ≠ .run i t := fun u hu =>
    nomatch hi.symm.trans (State.format_of_parserTurn hu)
  match hstim : s.stim with
  | .port w side :: rest =>
    rw [State.fetch_of_port hstim] at h
    cases hdec : decodePort w side with
    | none => simp [State.portTurn, hdec] at h
    | some j =>
      obtain ⟨rfl, -⟩ : j = i ∧ { s with stim := rest } = t := by simpa [State.portTurn, hdec] using h
      exact ⟨w, side, rest, rfl, hdec⟩
  | .parser :: rest => exact absurd (by simpa [State.fetch, hstim] using h) (hparser { s with stim := rest })
  | .drain :: rest =>
    cases hon : s.enabled with
    | false => simp [State.fetch, hstim, hon] at h
    | true => exact absurd (by simpa [State.fetch, hstim, hon] using h) (hparser s)
  | [] => exact absurd (by simpa [State.fetch, hstim] using h) (hparser s)

theorem State.stim_of_fetch_resetCfg {s t : State} {i : Instr} (h : s.fetch = .run i t) (hi : i.op = .resetCfg) :
    ∃ ch pin rest, s.stim = .port 0x300#11 ⟨ch, pin⟩ :: rest := by
  cases i with
  | resetCfg ch pin =>
    obtain ⟨w, side, rest, hstim, hdec⟩ := State.stim_of_fetch_port h rfl
    obtain ⟨-, -, rfl⟩ := encodeWord_of_decodePort hdec
    exact ⟨side.ch, side.pin, rest, hstim⟩
  | _ => nomatch hi

/-! ### The records under an operation (R134) -/

/-- There is one fault to record (R134), so to record it again writes nothing. -/
theorem fault_kept_of_exec {i : Instr} {s t : State} (h : exec i s = .next t) (hreset : i.op ≠ .resetCfg)
    (hfault : s.fault ≠ none) : t.fault = s.fault := by
  obtain hsame | hrecorded := fault_of_exec h hreset
  · exact hsame
  · obtain ⟨⟨⟩, hs⟩ := Option.ne_none_iff_exists'.mp hfault
    exact hrecorded.trans hs.symm

/-- No operation writes the mark `ReservedOp`, and none clears the mark `ReservedPort`. -/
theorem refusals_of_exec {i : Instr} {s t : State} (h : exec i s = .next t) :
    t.refusedOp = s.refusedOp ∧ (s.refusedPort = true → t.refusedPort = true) := by
  cases i with
  | push b =>
    cases (exec_push s b).symm.trans h
    obtain ⟨-, -, hrec, -⟩ := s.frame_of_push b
    exact ⟨hrec.refusedOp, hrec.refusedPort.trans⟩
  | avail => cases (exec_avail s).symm.trans h; exact ⟨rfl, id⟩
  | obsRead n =>
    cases (exec_obsRead s n).symm.trans h
    split
    · exact ⟨rfl, fun _ => rfl⟩
    · exact ⟨rfl, id⟩
  | resetCfg ch pin =>
    obtain ⟨-, rfl⟩ | ⟨-, rfl⟩ := resetCfg_cases h
    · exact ⟨rfl, id⟩
    · exact ⟨rfl, id⟩
  | _ =>
    obtain ⟨-, -, -, -, hop, hport⟩ := parserFrame_of_exec rfl h
    exact ⟨hop, hport.trans⟩

/-- Settles O40: a step is an operation, which obeys `refusals_of_exec` and `fault_of_exec`, or leaves the fault and at
most sets a mark; the operation that clears a fault comes with its turn (`State.stim_of_fetch_resetCfg`). -/
theorem recordsPersist : Obligations.RecordsPersist := by
  refine ⟨fun i s t h hreset hfault => fault_kept_of_exec h hreset hfault, fun s t hstep => ?_⟩
  obtain ⟨i, l, hfetch, -⟩ | ⟨l, hfetch⟩ | ⟨l, hfetch⟩ := s.fetch_cases
  · have h := (step_of_run hfetch).symm.trans hstep
    obtain ⟨hop, hport⟩ := refusals_of_exec h
    refine ⟨hop.trans, hport, fun hne => ?_⟩
    by_cases hi : i.op = .resetCfg
    · exact .inr (State.stim_of_fetch_resetCfg hfetch hi)
    · exact .inl ((fault_of_exec h hi).resolve_left hne)
  · cases (step_of_settled hfetch).symm.trans hstep
    exact ⟨id, id, absurd rfl⟩
  · cases (step_of_settled hfetch).symm.trans hstep
    exact ⟨fun _ => rfl, id, absurd rfl⟩

end Sys2Proof.Machine

/-! ## Power-on, resynchronisation after a lost byte, and the end of a run (R151, R154, R160, R161) -/

namespace Sys2Proof.Machine

/-- Settles O1: each element is read off `State.reset`, the power-on column of R36. -/
theorem powerOnIsNotConstructed : Obligations.PowerOnIsNotConstructed :=
  ⟨rfl, rfl, rfl, rfl, rfl, rfl, rfl, rfl, Memory.read_nil, rfl, rfl, rfl⟩

/-! ### A frame that lost a payload byte (R154) -/

/-- Settles O46: the parser takes the broken frame's end byte as the tenth payload byte and the next start byte as the
terminal one, so the frame ends in a `Failure` (`Delivery.frame_run`); what is left of the next frame, its end byte
included, is noise (`Delivery.noise_run`). -/
theorem lostByteCostsOneFailure : Obligations.LostByteCostsOneFailure := by
  intro s p q rest hr hst hstim hp hq hqnoise hf
  have hframe : (Delivery.queued (q ++ 0x0D#8 :: rest)).Brings (0x0A#8 :: ((p ++ [0x0D#8]) ++ [0x0A#8])) s :=
    ⟨hstim, by simp [hf]⟩
  obtain ⟨-, u, hu, ⟨hustim, huf⟩, hemit, hust, -, hcfg, -⟩ := Delivery.frame_run _ hr hst (by simp [hp]) hframe
  have htail : (Delivery.queued rest).Brings ((q ++ [0x0D#8]) ++ []) u := ⟨hustim, by simp [huf]⟩
  have hnoise : ∀ b ∈ q ++ [0x0D#8], b ≠ 0x0A#8 := List.forall_mem_append.mpr ⟨hqnoise, by simp⟩
  obtain ⟨t, ht, ⟨htstim, htf⟩, hrun, hsame⟩ := Delivery.noise_run _ (hcfg.run.trans hr) hust hnoise htail
  refine ⟨t, ?_, hrun.events.trans hemit.events, hsame.st.trans hust, htf, htstim⟩
  calc steps 23 s = steps 11 u := steps_add 12 11 hu
    _ = .next t := by simpa [Delivery.period, hq] using ht

/-! ### Every byte is consumed (R160, R161) -/

/-- The selected action leaves its byte in the FIFO only where it records the fault, which a safe state shuts out
(R98, R134). -/
theorem KeyOutcome.fifo_eq_tail {s t : State} {i : Instr} (h : KeyOutcome s i t) (hs : s.selected = some i)
    (hsafe : Safe t) : t.fifo = s.fifo.tail := by
  cases h with
  | idle hidle => exact absurd hs hidle
  | fault => nomatch hsafe
  | write => rfl
  | emit => rfl

/-- With no turn pending, a running block in a state of the invariant consumes its head byte in one step. -/
theorem BlockInv.step_consumes {s : State} {b : Byte} {bs : List Byte} (h : BlockInv s) (hr : s.run = true)
    (hstim : s.stim = []) (hf : s.fifo = b :: bs) :
    ∃ t, step s = .next t ∧ BlockInv t ∧ t.run = true ∧ t.stim = [] ∧ t.fifo = bs := by
  have hs := s.selected_of_fifo hr hf
  have hkey := State.format_of_selected hs
  obtain ⟨hturn, -⟩ := stepRunsSelectedAction s b bs hr hf
  obtain ⟨t, ht, hinv⟩ := exec_keeps_blockInv h (decodeKey (s.keyFor b))
  obtain ⟨hcfg, -, -, htstim, -⟩ := parserFrame_of_exec hkey ht
  obtain ⟨-, -, -, -, -, hsafe, -⟩ := id hinv
  have hpop : t.fifo = s.fifo.tail := (keyOutcome_of_exec hkey ht).fifo_eq_tail hs hsafe
  exact ⟨t, (hturn hstim).trans ht, hinv, hcfg.run.trans hr, htstim.trans hstim, by rw [hpop, hf, List.tail_cons]⟩

/-- Settles O47: by induction on the bytes queued, one step each (`BlockInv.step_consumes`); with none left no action
is selected. -/
theorem parserDrainsTheFifo : Obligations.ParserDrainsTheFifo := by
  intro s h hr hstim
  induction hf : s.fifo generalizing s with
  | nil => exact ⟨s, by rw [State.count, hf]; rfl, hf, hstim, s.selected_eq_none_iff.mpr (.inr hf), h⟩
  | cons b bs ih =>
    obtain ⟨u, hu, hinv, hur, hustim, huf⟩ := h.step_consumes hr hstim hf
    obtain ⟨t, ht, hend⟩ := ih u hinv hur hustim huf
    refine ⟨t, ?_, hend⟩
    calc steps s.count s = steps (u.count + 1) s := by rw [State.count, State.count, hf, huf, List.length_cons]
      _ = steps u.count u := steps_succ _ hu
      _ = .next t := ht

end Sys2Proof.Machine
